-- ==== Sys2Proof/Word.lean ====
section
/-! DEFINITION. The machine's two widths: 32-bit registers (00_scope.md R8) and wire or image bytes. -/

namespace Sys2Proof

/-- A 32-bit register, operand or value; its arithmetic wraps modulo 2^32 (R10). -/
abbrev Word := BitVec 32

/-- One byte of a wire frame, of the receive buffer or of the image. -/
abbrev Byte := BitVec 8

end Sys2Proof
end

