-- ==== Sys2Proof/Config.lean ====
section
/-! DEFINITION. What an implementation fixes: the parameters of 00_scope.md R8, and the free values of the
points that the spec leaves to "any value". -/

namespace Sys2Proof.Config

/-! ## The parameters of R8 -/

/-- The seed function of R160: the default `(local, remote) -> remote`, or another one (log 5). -/
inductive SeedFn where
  | remote
  | other
deriving DecidableEq, Repr

/-- CSUM_LEN_FIELD of R136. -/
inductive LenField where
  | imageLength
  | windowSize
deriving DecidableEq, Repr

/-- The parameters that a model takes (R8; 93_implementation_defined.md items 1, 4, 7, 8 and 20), under R8's names. They
are fixed before reset and never change (R383); no step and no reset writes them (R381). RXFILL travels with a timeout
response (log 6), MIN_GAP is the transport's (R386; log 19). -/
structure Params where
  /-- HEADER_LEN: length of the header, in bytes -/
  headerLen : Word
  /-- MIN_WINDOW: least transfer window -/
  minWindow : Word
  /-- CSUM_SEED: starting value of the checksum -/
  csumSeed : Word
  /-- CSUM_POLY: feedback constant of the checksum -/
  csumPoly : Word
  /-- KDF_TAG: tag of the key derivation's intermediate value -/
  kdfTag : Word
  /-- KDF_OR_MASK: fixed mask of the key derivation -/
  kdfOrMask : Word
  /-- KDF_C0: final constant of the key derivation when V[9] is clear -/
  kdfC0 : Word
  /-- KDF_C1: final constant of the key derivation when V[9] is set -/
  kdfC1 : Word
  /-- LCG_MUL: multiplier of the key advance -/
  lcgMul : Word
  /-- LCG_INC: increment of the key advance -/
  lcgInc : Word
  /-- MASK_OFS_BIAS: bias added to a byte offset before it is negated in the mask -/
  maskOfsBias : Word
  /-- MASK_CONST: constant of the mask -/
  maskConst : Word
  /-- DEBOUNCE_SEED: what the debounce counter is set to by a definite probe -/
  debounceSeed : Byte
  /-- PEER_TYPE_OK: the expected peer type -/
  peerTypeOk : Word
  /-- PEER_TYPE_SPURIOUS: the peer type that is a known spurious transient -/
  peerTypeSpurious : Word
  /-- READY_BIT: READY in the third byte of a Status reply -/
  readyBit : Byte
  /-- HASDATA_BIT: the has-data hint in the fifth byte of a Read reply -/
  hasDataBit : Byte
  /-- XCHG_TIMEOUT: the timeout passed to the transport with each request; its unit is OPEN (D41; log 19) -/
  xchgTimeout : Nat
  /-- KDF_SUM_SELF -/
  kdfSumSelf : Bool
  /-- REMOTE_KEY_XOR -/
  remoteKeyXor : Word
  /-- SEED_FN -/
  seedFn : SeedFn
  /-- CSUM_LEN_FIELD -/
  csumLenField : LenField
  /-- ABORT_ON_TIMEOUT -/
  abortOnTimeout : Bool
  /-- MAX_IMAGE_LEN -/
  maxImageLen : Word
deriving DecidableEq, Repr

/-- The values of R8: the source's for its literals, and the spec's defaults. -/
def defaults : Params where
  headerLen := 0xC0#32
  minWindow := 0x200#32
  csumSeed := 0x15A0#32
  csumPoly := 0xA1C1#32
  kdfTag := 0x380000#32
  kdfOrMask := 0x80808080#32
  kdfC0 := 0x4B617761#32
  kdfC1 := 0x7365646F#32
  lcgMul := 0x6177614B#32
  lcgInc := 1#32
  maskOfsBias := 0x02000000#32
  maskConst := 0x20796220#32
  debounceSeed := 60#8
  peerTypeOk := 0x00040000#32
  peerTypeSpurious := 0x08000000#32
  readyBit := 0x10#8
  hasDataBit := 0x08#8
  xchgTimeout := 5
  kdfSumSelf := false
  remoteKeyXor := 0x6F646573#32
  seedFn := .remote
  csumLenField := .imageLength
  abortOnTimeout := false
  maxImageLen := 0xFFFFFFF8#32

/-! ## Free values: nothing constrains them -/

/-- A seed function other than the default (R160; log 5). -/
opaque otherSeed : Word → Word → Word
/-- The probe word read when the environment has scripted none (93 item 19; log 2). -/
opaque freeProbe : Nat → Word
/-- Whether an exchange times out when the environment has scripted no response (log 2). -/
opaque freeTimeout : Nat → Bool
/-- Byte `i` of such an exchange's reply (93 item 19; log 2). -/
opaque freeReplyByte : Nat → Nat → Byte
/-- Which bytes such an exchange's timeout zeroes (RXFILL; 93 item 5; log 2). -/
opaque freeFill : Nat → BitVec 5
/-- The value of a Write after the image changed since the upload's START (R388; log 8). -/
opaque freeSent : Nat → Word
/-- The checksum after the image changed since the upload's START (R388; log 8). -/
opaque freeCsum : Nat → Word

end Sys2Proof.Config
end

