-- ==== Sys2Proof/Syntax.lean ====
section
/-! DEFINITION. The instructions of LINKCORE, one constructor for each row of spec/opcode_table.json: the operation
codes of 30_encoding.md R96, its reserved words (R98), and the four wire commands (R91). -/

namespace Sys2Proof

/-- An operation as it is presented on the operation port: the operation word and the two operand ports (R94). -/
structure OpTriple where
  opw : Byte
  opa : Word
  opb : Word
deriving DecidableEq, Repr

/-- The two encoding spaces of R90 that hold instructions. One byte may mean different things in the two. -/
inductive Port where
  /-- the operation port, through which a host drives the datapath (R94) -/
  | op
  /-- the transport port, on which LINKCORE issues its wire commands (R91) -/
  | wire
deriving DecidableEq, Repr

/-- A request on the transport port: the bytes sent, the number of reply bytes expected, and the timeout (R42, R91). -/
structure Request where
  tx : List Byte
  replyLen : Nat
  timeout : Nat
deriving DecidableEq, Repr

/-- The transport's response to one request (R42, R320). -/
inductive Reply where
  /-- the reply bytes -/
  | ok (bytes : List Byte)
  /-- no reply within the budget. `fill` says what RXFILL makes of each expected byte: bit `i` set, 0x00; clear, the byte
  it held (R320; log 6) -/
  | timeout (fill : BitVec 5)
deriving DecidableEq, Repr

/-- One constructor per row of the opcode table. An operand that a row does not use is not kept: the operation
ignores its value (R95). -/
inductive Instr where
  /-- NOP, OPW 0x00 (R96) -/
  | nop
  /-- CSUM_INIT, OPW 0x01 (R137) -/
  | csumInit
  /-- CSUM_FOLD w, OPW 0x02 (R138) -/
  | csumFold (w : Word)
  /-- CSUM_FINAL len, OPW 0x03 (R139) -/
  | csumFinal (len : Word)
  /-- KDF window, OPW 0x04 (R156) -/
  | kdf (window : Word)
  /-- RKEY rw, OPW 0x05 (R158) -/
  | rkey (rw : Word)
  /-- KSEED, OPW 0x06 (R161) -/
  | kseed
  /-- KADV, OPW 0x07 (R186) -/
  | kadv
  /-- MASK o, w, OPW 0x08 (R187) -/
  | mask (o w : Word)
  /-- CRYPT o, w, OPW 0x09 (R188) -/
  | crypt (o w : Word)
  /-- IMGRD o, OPW 0x0A (R265) -/
  | imgrd (o : Word)
  /-- PAYW o, OPW 0x0B (R266) -/
  | payw (o : Word)
  /-- SEAL len, o, OPW 0x0C (R267) -/
  | sealCsum (len o : Word)
  /-- LPOLL p, OPW 0x0D (R228) -/
  | lpoll (p : Word)
  /-- LDROP, OPW 0x0E (R229) -/
  | ldrop
  /-- the reserved code OPC = 0xF with OPW[7:4] = 0 (R98) -/
  | reservedOpcF
  /-- OPW[7:4] = 0x1, any OPC (R98); the next fourteen are the other non-zero values of OPW[7:4] -/
  | reservedMbz1 (opc : BitVec 4)
  | reservedMbz2 (opc : BitVec 4)
  | reservedMbz3 (opc : BitVec 4)
  | reservedMbz4 (opc : BitVec 4)
  | reservedMbz5 (opc : BitVec 4)
  | reservedMbz6 (opc : BitVec 4)
  | reservedMbz7 (opc : BitVec 4)
  | reservedMbz8 (opc : BitVec 4)
  | reservedMbz9 (opc : BitVec 4)
  | reservedMbzA (opc : BitVec 4)
  | reservedMbzB (opc : BitVec 4)
  | reservedMbzC (opc : BitVec 4)
  | reservedMbzD (opc : BitVec 4)
  | reservedMbzE (opc : BitVec 4)
  | reservedMbzF (opc : BitVec 4)
  /-- wire command Reset, 0xFF (R321) -/
  | wireReset
  /-- wire command Status, 0x00 (R322) -/
  | wireStatus
  /-- wire command Read, 0x14 (R323) -/
  | wireRead
  /-- wire command Write, 0x15; `v` goes out least significant byte first (R324) -/
  | wireWrite (v : Word)
deriving DecidableEq, Repr

/-- The encoding space an instruction belongs to (R90). -/
def Instr.port : Instr → Port
  | .nop => .op
  | .csumInit => .op
  | .csumFold _ => .op
  | .csumFinal _ => .op
  | .kdf _ => .op
  | .rkey _ => .op
  | .kseed => .op
  | .kadv => .op
  | .mask _ _ => .op
  | .crypt _ _ => .op
  | .imgrd _ => .op
  | .payw _ => .op
  | .sealCsum _ _ => .op
  | .lpoll _ => .op
  | .ldrop => .op
  | .reservedOpcF => .op
  | .reservedMbz1 _ => .op
  | .reservedMbz2 _ => .op
  | .reservedMbz3 _ => .op
  | .reservedMbz4 _ => .op
  | .reservedMbz5 _ => .op
  | .reservedMbz6 _ => .op
  | .reservedMbz7 _ => .op
  | .reservedMbz8 _ => .op
  | .reservedMbz9 _ => .op
  | .reservedMbzA _ => .op
  | .reservedMbzB _ => .op
  | .reservedMbzC _ => .op
  | .reservedMbzD _ => .op
  | .reservedMbzE _ => .op
  | .reservedMbzF _ => .op
  | .wireReset => .wire
  | .wireStatus => .wire
  | .wireRead => .wire
  | .wireWrite _ => .wire

end Sys2Proof
end

