-- ==== Sys2Proof/WellFormed.lean ====
section
/-! DEFINITION. Checks on raw data. Every term of Instr is well-formed by its type: its operands are whole words that the
block takes unchanged (R95), and a reserved row keeps the four bits it leaves open (R98). What can be ill-formed is what
stands at a port: a triple an assembler would not write, a request that is none of R91's frames, a reply of another
length than the one asked for (R326). -/

namespace Sys2Proof

/-- Which operands an operation code uses (R96): OPA, and OPB. -/
def operandsUsed : Nat → Bool × Bool
  | 2 => (true, false)
  | 3 => (true, false)
  | 4 => (true, false)
  | 5 => (true, false)
  | 8 => (true, true)
  | 9 => (true, true)
  | 10 => (true, false)
  | 11 => (true, false)
  | 12 => (true, true)
  | 13 => (true, false)
  | _ => (false, false)

/-- The triple is one that a line of assembly writes: OPW is one of the fifteen operation words 0x00 to 0x0E (R96, R98),
and an operand that the operation does not use is 0 (R95, R101). -/
def OpTriple.wellFormed (t : OpTriple) : Bool :=
  decide (t.opw.toNat < 0x0F)
    && ((operandsUsed t.opw.toNat).1 || t.opa == 0)
    && ((operandsUsed t.opw.toNat).2 || t.opb == 0)

/-- The request is one of the four of R91, with its own reply length; no other is ever issued (R326). -/
def Request.wellFormed (r : Request) : Bool :=
  match r.tx with
  | [c] => (c == 0xFF && r.replyLen == 3) || (c == 0x00 && r.replyLen == 3) || (c == 0x14 && r.replyLen == 5)
  | [c, _, _, _, _] => c == 0x15 && r.replyLen == 1
  | _ => false

/-- The response honours the port contract for a request that expects `m` bytes: exactly `m` bytes, or a timeout
(R320, R326, R383). -/
def Reply.fits (m : Nat) : Reply → Bool
  | .ok bytes => bytes.length == m
  | .timeout _ => true

end Sys2Proof
end

