-- ==== Sys2Proof/Decode.lean ====
section
/-! DEFINITION. Bytes to instructions and back (30_encoding.md): the operation port's triples (R94, R96, R98), laid out as
nine bytes, and the wire request frames (R91). Total on any bytes; a frame that is no command is rejected by name. -/

namespace Sys2Proof

/-! ## Byte order (R11, R63, R64) -/

/-- Byte `k` of a word: `v[8k+7:8k]` (R9). -/
def byteOf (k : Nat) (v : Word) : Byte := v.extractLsb' (8 * k) 8

/-- `LE32(b0, b1, b2, b3)` (R11). -/
def le32 (b0 b1 b2 b3 : Byte) : Word := b3 ++ b2 ++ b1 ++ b0

/-- A word's bytes, least significant first (R64). -/
def leBytes (v : Word) : List Byte := [byteOf 0 v, byteOf 1 v, byteOf 2 v, byteOf 3 v]

/-! ## The operation port (R94 to R98) -/

/-- OPC, the operation code: `OPW[3:0]` (R94). -/
def opcOf (opw : Byte) : BitVec 4 := opw.extractLsb' 0 4

/-- `OPW[7:4]`, which must be zero (R94). -/
def mbzOf (opw : Byte) : BitVec 4 := opw.extractLsb' 4 4

/-- The reserved row that a non-zero `OPW[7:4]` selects (R98). -/
def reservedMbz (mbz opc : BitVec 4) : Instr :=
  match mbz.toNat with
  | 1 => .reservedMbz1 opc
  | 2 => .reservedMbz2 opc
  | 3 => .reservedMbz3 opc
  | 4 => .reservedMbz4 opc
  | 5 => .reservedMbz5 opc
  | 6 => .reservedMbz6 opc
  | 7 => .reservedMbz7 opc
  | 8 => .reservedMbz8 opc
  | 9 => .reservedMbz9 opc
  | 10 => .reservedMbzA opc
  | 11 => .reservedMbzB opc
  | 12 => .reservedMbzC opc
  | 13 => .reservedMbzD opc
  | 14 => .reservedMbzE opc
  | _ => .reservedMbzF opc

/-- The operation code map of R96, for a word whose `OPW[7:4]` is zero. -/
def opcodeInstr (opc : BitVec 4) (opa opb : Word) : Instr :=
  match opc.toNat with
  | 0 => .nop
  | 1 => .csumInit
  | 2 => .csumFold opa
  | 3 => .csumFinal opa
  | 4 => .kdf opa
  | 5 => .rkey opa
  | 6 => .kseed
  | 7 => .kadv
  | 8 => .mask opa opb
  | 9 => .crypt opa opb
  | 10 => .imgrd opa
  | 11 => .payw opa
  | 12 => .sealCsum opa opb
  | 13 => .lpoll opa
  | 14 => .ldrop
  | _ => .reservedOpcF

/-- The instruction that a presented triple is: every one of the 256 operation words is some row (R96, R98). -/
def decodeTriple (t : OpTriple) : Instr :=
  if mbzOf t.opw = 0#4 then opcodeInstr (opcOf t.opw) t.opa t.opb
  else reservedMbz (mbzOf t.opw) (opcOf t.opw)

/-- A triple as bytes: OPW, then OPA and OPB, each least significant byte first. DESIGN CHOICE (log 9): the spec gives
the three ports no order in bits. -/
def OpTriple.bytes (t : OpTriple) : List Byte := t.opw :: (leBytes t.opa ++ leBytes t.opb)

/-! ## Decoding -/

/-- Why bytes are no instruction. -/
inductive DecodeError where
  /-- the operation port takes one word and two operands, nine bytes (R99) -/
  | opLength
  /-- byte 0 of the frame is none of the four command codes (R91, R98) -/
  | notACommand
  /-- a known command with the wrong number of bytes (R91, R326) -/
  | frameLength
deriving DecidableEq, Repr

/-- The nine bytes of a presented operation. -/
def decodeOp : List Byte → Except DecodeError Instr
  | [w, a0, a1, a2, a3, b0, b1, b2, b3] => .ok (decodeTriple ⟨w, le32 a0 a1 a2 a3, le32 b0 b1 b2 b3⟩)
  | _ => .error .opLength

/-- A wire request frame: the command byte fixes the length (R91, R99). -/
def decodeWire : List Byte → Except DecodeError Instr
  | [] => .error .frameLength
  | c :: vs =>
    if c = 0xFF#8 then (if vs = [] then .ok .wireReset else .error .frameLength)
    else if c = 0x00#8 then (if vs = [] then .ok .wireStatus else .error .frameLength)
    else if c = 0x14#8 then (if vs = [] then .ok .wireRead else .error .frameLength)
    else if c = 0x15#8 then
      match vs with
      | [b0, b1, b2, b3] => .ok (.wireWrite (le32 b0 b1 b2 b3))
      | _ => .error .frameLength
    else .error .notACommand

/-- The instruction that bytes at a port are. -/
def decode : Port → List Byte → Except DecodeError Instr
  | .op, bs => decodeOp bs
  | .wire, bs => decodeWire bs

/-! ## Encoding -/

/-- The word of a reserved row: `OPW[7:4]` and `OPW[3:0]`. -/
def reservedTriple (mbz opc : BitVec 4) : OpTriple := ⟨mbz ++ opc, 0#32, 0#32⟩

/-- The Write frame of a value: the command byte, then the value least significant byte first (R64, R91). -/
def writeFrame (v : Word) : List Byte := 0x15#8 :: leBytes v

/-- An instruction as it stands at its port: a triple with its unused operands 0 (R95, R101), or a request frame (R91). -/
inductive Encoding where
  | triple (t : OpTriple)
  | frame (bs : List Byte)
deriving DecidableEq, Repr

/-- The encoding table of R96, R98 and R91. -/
def Instr.encoding : Instr → Encoding
  | .nop => .triple ⟨0x00#8, 0#32, 0#32⟩
  | .csumInit => .triple ⟨0x01#8, 0#32, 0#32⟩
  | .csumFold w => .triple ⟨0x02#8, w, 0#32⟩
  | .csumFinal len => .triple ⟨0x03#8, len, 0#32⟩
  | .kdf window => .triple ⟨0x04#8, window, 0#32⟩
  | .rkey rw => .triple ⟨0x05#8, rw, 0#32⟩
  | .kseed => .triple ⟨0x06#8, 0#32, 0#32⟩
  | .kadv => .triple ⟨0x07#8, 0#32, 0#32⟩
  | .mask o w => .triple ⟨0x08#8, o, w⟩
  | .crypt o w => .triple ⟨0x09#8, o, w⟩
  | .imgrd o => .triple ⟨0x0A#8, o, 0#32⟩
  | .payw o => .triple ⟨0x0B#8, o, 0#32⟩
  | .sealCsum len o => .triple ⟨0x0C#8, len, o⟩
  | .lpoll p => .triple ⟨0x0D#8, p, 0#32⟩
  | .ldrop => .triple ⟨0x0E#8, 0#32, 0#32⟩
  | .reservedOpcF => .triple ⟨0x0F#8, 0#32, 0#32⟩
  | .reservedMbz1 opc => .triple (reservedTriple 0x1#4 opc)
  | .reservedMbz2 opc => .triple (reservedTriple 0x2#4 opc)
  | .reservedMbz3 opc => .triple (reservedTriple 0x3#4 opc)
  | .reservedMbz4 opc => .triple (reservedTriple 0x4#4 opc)
  | .reservedMbz5 opc => .triple (reservedTriple 0x5#4 opc)
  | .reservedMbz6 opc => .triple (reservedTriple 0x6#4 opc)
  | .reservedMbz7 opc => .triple (reservedTriple 0x7#4 opc)
  | .reservedMbz8 opc => .triple (reservedTriple 0x8#4 opc)
  | .reservedMbz9 opc => .triple (reservedTriple 0x9#4 opc)
  | .reservedMbzA opc => .triple (reservedTriple 0xA#4 opc)
  | .reservedMbzB opc => .triple (reservedTriple 0xB#4 opc)
  | .reservedMbzC opc => .triple (reservedTriple 0xC#4 opc)
  | .reservedMbzD opc => .triple (reservedTriple 0xD#4 opc)
  | .reservedMbzE opc => .triple (reservedTriple 0xE#4 opc)
  | .reservedMbzF opc => .triple (reservedTriple 0xF#4 opc)
  | .wireReset => .frame [0xFF#8]
  | .wireStatus => .frame [0x00#8]
  | .wireRead => .frame [0x14#8]
  | .wireWrite v => .frame (writeFrame v)

/-- The bytes of an encoding. -/
def Encoding.bytes : Encoding → List Byte
  | .triple t => t.bytes
  | .frame bs => bs

/-- The bytes of an instruction at its own port. -/
def encode (i : Instr) : List Byte := i.encoding.bytes

/-! ## Rows of the opcode table -/

/-- The port at which the model takes a bare table word. A wire word that is a whole row of the table (FF, 14, 15) is
taken before the pattern row of the operation port that it also matches; 00 is a whole row of both and goes to the
operation port; anything longer than a wire frame is an operation. DESIGN CHOICE (log 10): this choice concerns bare
words only, every input of the machine says which port it is at. -/
def tablePort (nbits w : Nat) : Port :=
  if 40 < nbits then .op
  else if w % 256 = 0xFF ∨ w % 256 = 0x14 ∨ w % 256 = 0x15 then .wire
  else .op

/-- The triple whose nine bytes are the number `w`. -/
def tableTriple (w : Nat) : OpTriple :=
  ⟨BitVec.ofNat 8 w, BitVec.ofNat 32 (w / 2 ^ 8), BitVec.ofNat 32 (w / 2 ^ 40)⟩

/-- The wire frame whose bytes are the number `w`, as long as its first byte says (R99). -/
def tableFrame (w : Nat) : List Byte :=
  if w % 256 = 0x15 then writeFrame (BitVec.ofNat 32 (w / 2 ^ 8)) else [BitVec.ofNat 8 w]

/-- The instruction that the decoder reads from a table word of `nbits` bits, the bits above them zero. -/
def decodeTableWord (nbits w : Nat) : Option Instr :=
  let v := w % 2 ^ nbits
  match (match tablePort nbits v with
    | .op => decode .op (tableTriple v).bytes
    | .wire => decode .wire (tableFrame v)) with
  | .ok i => some i
  | .error _ => none

end Sys2Proof
end

