-- ==== Sys2Proof/Machine/State.lean ====
section
/-! DEFINITION. The state of LINKCORE (10_state.md), its ports, its faults and refusals, and the state after reset
(70_reset_and_hazards.md R381). -/

namespace Sys2Proof.Machine

/-! ## Enumerations of the status registers. A code that is never held cannot be written down (log 18). -/

/-- LSTAT (R220). -/
inductive LinkStatus where
  | noPeer
  | wrongPeerType
  | connected
deriving DecidableEq, Repr

/-- USTATE (R290). -/
inductive UploadState where
  | waitingForPeer
  | peerReady
  | idle
deriving DecidableEq, Repr

/-- HSST (R200). -/
inductive HandshakeState where
  | inactive
  | awaitingBios
  | ready
deriving DecidableEq, Repr

/-- UPH (R31). -/
inductive UploadPhase where
  | none
  | handshake
  | remoteKey
  | localKey
  | header
  | payload
  | trailer
  | ack
  | done
  | failed
deriving DecidableEq, Repr

/-- The error codes of R341. -/
inductive ErrCode where
  | exchangeTimeout
  | peerAbsent
  | peerWrongType
  | malformedImage
  | windowTooSmall
  | imageTooLarge
  | reservedOp
  | opBusy
  | misalignedOffset
  | transferFailure
deriving DecidableEq, Repr

/-- The step of the frame action in progress that comes next (R7, R291): the probe, or one exchange. The model's own
field: the sequencer position of R39 does not tell the probe from the exchange after it (log 3). -/
inductive SeqStep where
  /-- no frame action is in progress -/
  | none
  | probe
  | hsReset
  | hsStatus
  | remoteKey
  | localKey
  | header
  | payload
  | trailer
  | ack
  | idleRead
  | idleWrite
deriving DecidableEq, Repr

/-- What an exchange returns beside its bytes: the `st` of R320. -/
inductive XchgStatus where
  | ok
  | timedOut
deriving DecidableEq, Repr

/-- The answer line of the operation port (R94). -/
inductive OpAnswer where
  /-- no operation has been presented yet -/
  | none
  | accepted
  | rejected
deriving DecidableEq, Repr

/-- TRIG, or the five USR levels of one frame (R41, R42). -/
structure Triggers where
  start : Bool
  inc : Bool
  dec : Bool
  send : Bool
  disc : Bool
deriving DecidableEq, Repr

/-- RXBUF, the five bytes of the receive buffer (R37). -/
structure RxBuf where
  b0 : Byte
  b1 : Byte
  b2 : Byte
  b3 : Byte
  b4 : Byte
deriving DecidableEq, Repr

/-- The image bytes: a list of cells in canonical form (Machine/Ops.lean, Memory.wf). -/
abbrev Memory := List Host.Cell

/-- What can arrive at LINKCORE's input ports between two atomic steps (R7, R42, R354). -/
inductive Input where
  /-- nothing arrives before the next step -/
  | quiet
  /-- an operation is presented on OP -/
  | op (t : OpTriple)
  /-- a FRAME tick, with the USR levels of that frame -/
  | frame (levels : Triggers)
  /-- RESET is asserted -/
  | reset
  /-- IMG_LEN changes to `n` -/
  | imageLen (n : Word)
  /-- IMG_BYTE(a) changes to `b` -/
  | imageByte (a : Word) (b : Byte)
  /-- the transport answers although no request is outstanding -/
  | response (r : Reply)
deriving DecidableEq, Repr

/-- The ports (R42). They belong to the environment, and RESET does not touch them (log 16). -/
structure Ports where
  /-- what has still to arrive, first to arrive first (log 1) -/
  inputs : List Input
  /-- PP responses that have still to be taken, first first -/
  probes : List Word
  /-- XP responses that have still to be taken, first first -/
  replies : List Reply
  /-- IMG_LEN -/
  imgLen : Word
  /-- IMG_BYTE -/
  image : Memory
  /-- the answer line of OP -/
  opAnswer : OpAnswer
  /-- the requests issued on XP, the latest first (log 15) -/
  requests : List Request
  /-- how many probe requests were issued on PP (log 15) -/
  probeCount : Nat
deriving DecidableEq, Repr

/-- The whole state. -/
structure State where
  /-- KEY (R22) -/
  key : Word
  /-- CSUM (R23) -/
  csum : Word
  /-- LOCALKEY (R24) -/
  localKey : Word
  /-- REMOTEKEY (R25) -/
  remoteKey : Word
  /-- CURSOR (R26) -/
  cursor : Word
  /-- WINDOW (R27) -/
  window : Word
  /-- IMGLEN (R28) -/
  imgLen : Word
  /-- OPR (R29) -/
  opr : Word
  /-- LINK.LSTAT (R30) -/
  lstat : LinkStatus
  /-- LINK.DCNT (R30, R221) -/
  dcnt : Byte
  /-- SSTAT.USTATE (R31) -/
  ustate : UploadState
  /-- SSTAT.HSST (R31) -/
  hsst : HandshakeState
  /-- SSTAT.HSP (R31): set when the Status exchange is next -/
  hsp : Bool
  /-- SSTAT.UPH (R31) -/
  uph : UploadPhase
  /-- SSTAT.BUSY (R31) -/
  busy : Bool
  /-- SSTAT.HASDATA (R31) -/
  hasData : Bool
  /-- ERR[9:0], the sticky error bits (R32) -/
  errBits : BitVec 10
  /-- ERR.LASTERR (R32): the last error raised, none if none was -/
  lastErr : Option ErrCode
  /-- TOCNT (R33) -/
  tocnt : Word
  /-- USERCNT (R34) -/
  usercnt : Word
  /-- LASTRX (R35) -/
  lastrx : Word
  /-- ACK (R36) -/
  ack : Word
  /-- RXBUF (R37) -/
  rx : RxBuf
  /-- RXLEN (R37) -/
  rxlen : BitVec 3
  /-- XPEND (R41) -/
  xpend : Bool
  /-- ATFB (R41) -/
  atfb : Bool
  /-- TRIG (R41) -/
  trig : Triggers
  /-- the next step of the frame action in progress; the model's own (log 3) -/
  seq : SeqStep
  /-- the status of the last exchange; the model's own (log 22) -/
  xst : XchgStatus
  /-- the image changed since the START of the current upload; the model's own (log 8) -/
  imgBroken : Bool
  /-- how many free values were drawn; the model's own (log 2) -/
  draws : Nat
  /-- the parameters (R8), which no step writes (log 4) -/
  params : Config.Params
  /-- the ports (R42) -/
  ports : Ports
deriving DecidableEq, Repr

/-- Why the machine stops with a fault. Both reasons are broken environment contracts that 93_implementation_defined.md
item 17 treats as a fault; both are safe: a claim about a run says nothing past them. -/
inductive Fault where
  /-- raised by a wire command whose response has another length than the one requested (R320, R326). Safe. -/
  | replyLength
  /-- raised by the step when a response arrives without a request, or a second one (R385). Safe. -/
  | unsolicitedResponse
deriving DecidableEq, Repr

/-- Why a step has no meaning. -/
inductive Refusal where
  /-- raised by an arm of exec whose instruction has no meaning yet; no arm does so. Safe. -/
  | notModelled (mnemonic : String)
  /-- raised by the step when bytes at a port decode to no instruction; no reachable state does so. Safe. -/
  | undecodable (e : DecodeError)
deriving DecidableEq, Repr

/-- No trigger. -/
def Triggers.off : Triggers := ⟨false, false, false, false, false⟩

/-- The receive buffer after reset (R381). -/
def RxBuf.zero : RxBuf := ⟨0#8, 0#8, 0#8, 0#8, 0#8⟩

/-- Ports with nothing scripted, nothing issued, and an image of length 0 (log 7, log 14, log 15). -/
def Ports.quiet : Ports where
  inputs := []
  probes := []
  replies := []
  imgLen := 0#32
  image := []
  opAnswer := .none
  requests := []
  probeCount := 0

/-- The state after reset (R381), with the default parameters (R8). -/
def State.reset : State where
  key := 0#32
  csum := 0x15A0#32
  localKey := 0#32
  remoteKey := 0#32
  cursor := 0#32
  window := 0#32
  imgLen := 0#32
  opr := 0#32
  lstat := .noPeer
  dcnt := 0#8
  ustate := .waitingForPeer
  hsst := .inactive
  hsp := false
  uph := .none
  busy := false
  hasData := false
  errBits := 0#10
  lastErr := none
  tocnt := 0#32
  usercnt := 0#32
  lastrx := 0#32
  ack := 0#32
  rx := .zero
  rxlen := 0#3
  xpend := false
  atfb := true
  trig := .off
  seq := .none
  xst := .ok
  imgBroken := false
  draws := 0
  params := Config.defaults
  ports := .quiet

end Sys2Proof.Machine
end

