-- ==== Sys2Proof/Machine/Flags.lean ====
section
/-! DEFINITION. Status: the codes of the enumerations, the words of the status registers, and every status test of R40
and R97. -/

namespace Sys2Proof.Machine

/-! ## Codes (R30, R31, R341) -/

def LinkStatus.code : LinkStatus → BitVec 2
  | .noPeer => 0
  | .wrongPeerType => 1
  | .connected => 2

def UploadState.code : UploadState → BitVec 2
  | .waitingForPeer => 0
  | .peerReady => 1
  | .idle => 2

def HandshakeState.code : HandshakeState → BitVec 2
  | .inactive => 0
  | .awaitingBios => 1
  | .ready => 2

def UploadPhase.code : UploadPhase → BitVec 4
  | .none => 0
  | .handshake => 1
  | .remoteKey => 2
  | .localKey => 3
  | .header => 4
  | .payload => 5
  | .trailer => 6
  | .ack => 7
  | .done => 8
  | .failed => 9

/-- The code of an error (R341). -/
def ErrCode.code : ErrCode → Nat
  | .exchangeTimeout => 1
  | .peerAbsent => 2
  | .peerWrongType => 3
  | .malformedImage => 4
  | .windowTooSmall => 5
  | .imageTooLarge => 6
  | .reservedOp => 7
  | .opBusy => 8
  | .misalignedOffset => 9
  | .transferFailure => 10

/-- The sticky bit of an error, `bit(E) = code(E) - 1` (R340), as a mask of ERR[9:0]. -/
def ErrCode.mask (e : ErrCode) : BitVec 10 := 1#10 <<< (e.code - 1)

/-- LASTERR as a field: 0 if no error was raised (R32). -/
def lastErrCode : Option ErrCode → Byte
  | none => 0
  | some e => BitVec.ofNat 8 e.code

/-! ## Status words -/

/-- LINK (R30). -/
def linkWord (s : State) : Word := 0#16 ++ s.dcnt ++ 0#6 ++ s.lstat.code

/-- SSTAT (R31). -/
def sstatWord (s : State) : Word :=
  0#14 ++ BitVec.ofBool s.hasData ++ BitVec.ofBool s.busy ++ 0#4 ++ s.uph.code ++ 0#3 ++ BitVec.ofBool s.hsp
    ++ s.hsst.code ++ s.ustate.code

/-- ERR (R32). -/
def errWord (s : State) : Word := 0#8 ++ lastErrCode s.lastErr ++ 0#6 ++ s.errBits

/-- RXW (R37). -/
def rxWord (s : State) : Word := le32 s.rx.b0 s.rx.b1 s.rx.b2 s.rx.b3

/-- RXX (R37). -/
def rxxWord (s : State) : Word := 0#21 ++ s.rxlen ++ s.rx.b4

/-! ## Tests -/

/-- An upload is in one of its steps 1 to 7: UPH is Handshake to Ack (R97). -/
def uploadActive (s : State) : Bool :=
  match s.uph with
  | .none => false
  | .handshake => true
  | .remoteKey => true
  | .localKey => true
  | .header => true
  | .payload => true
  | .trailer => true
  | .ack => true
  | .done => false
  | .failed => false

/-- A START that begins an upload, or would if the link proves Connected, was sampled, and the state action has not run
yet (R291, R293). -/
def startSampled (s : State) : Bool := s.seq == .probe && s.ustate == .peerReady && s.trig.start

/-- The interval over which the image port must hold its values: from the START that begins an upload until UPH reaches
Done or Failed (R388; log 8). -/
def imageHeld (s : State) : Bool := uploadActive s || startSampled s

/-- CSUM is the sum of the upload in progress: its session has started and its payload is under way or was sent (R257,
R259, R260). -/
def checksumUnderWay (s : State) : Bool :=
  match s.uph with
  | .none => false
  | .handshake => false
  | .remoteKey => false
  | .localKey => false
  | .header => false
  | .payload => true
  | .trailer => true
  | .ack => true
  | .done => false
  | .failed => false

/-- OPBLOCKED (R97). -/
def opBlocked (s : State) : Bool := s.busy || s.hsst == .awaitingBios || uploadActive s

/-- READY: READY_BIT, bit 4, of the third byte of the receive buffer, and no other bit (R203). -/
def peerIsReady (s : State) : Bool := s.rx.b2 &&& s.params.readyBit != 0#8

/-- The has-data hint: HASDATA_BIT, bit 3, of the fifth byte of the receive buffer (R92, R294). -/
def hasDataHint (s : State) : Bool := s.rx.b4 &&& s.params.hasDataBit != 0#8

/-- The upload's last exchange ends it: it timed out and ABORT_ON_TIMEOUT is set (R263, R351). -/
def transferAborts (s : State) : Bool := s.params.abortOnTimeout && s.xst == .timedOut

end Sys2Proof.Machine
end

