-- ==== Sys2Proof/Machine/Ops.lean ====
section
/-! DEFINITION. The operations the meanings share: image memory, recording an error (the only "exception" LINKCORE has,
60_exceptions.md R340), accepting and refusing an operation, the two primitives of 47_link_commands.md, and the
read-back port. -/

namespace Sys2Proof.Machine

/-- What a meaning answers. -/
abbrev Result := Host.Outcome State Fault Refusal

/-! ## Image memory -/

/-- What an address that is not listed reads as. DESIGN CHOICE (log 7). -/
def Memory.unlisted : Byte := 0#8

/-- One byte of the image. -/
def Memory.read : Memory → Nat → Byte
  | [], _ => Memory.unlisted
  | (k, b) :: m, a => if a = k then b else Memory.read m a

/-- The memory with one byte changed, in canonical form when the memory was. -/
def Memory.write : Memory → Nat → Byte → Memory
  | [], a, b => if b = Memory.unlisted then [] else [(a, b)]
  | (k, c) :: m, a, b =>
    if a < k then (if b = Memory.unlisted then (k, c) :: m else (a, b) :: (k, c) :: m)
    else if a = k then (if b = Memory.unlisted then m else (a, b) :: m)
    else (k, c) :: Memory.write m a b

/-- Every address of the memory lies above `lo`, addresses rise strictly, no cell holds the unlisted value. -/
def Memory.wfFrom (lo : Nat) : Memory → Bool
  | [] => true
  | (k, b) :: m => decide (lo ≤ k) && b != Memory.unlisted && Memory.wfFrom (k + 1) m

/-- The canonical form. -/
def Memory.wf (m : Memory) : Bool := Memory.wfFrom 0 m

/-! ## Errors (R340, R356): no state is saved, no mode changes, no control is transferred, and nothing returns -/

/-- `raise E`: sets the sticky bit, makes E the last error, and does nothing else (R340). -/
def raise (e : ErrCode) (s : State) : State :=
  { s with errBits := s.errBits ||| e.mask, lastErr := some e }

/-! ## The operation port -/

/-- The answer line of the operation port (R94). -/
def answer (a : OpAnswer) (s : State) : State := { s with ports := { s.ports with opAnswer := a } }

/-- An accepted operation writes OPR and is answered "accepted" (R94, R96). -/
def accept (v : Word) (s : State) : State := answer .accepted { s with opr := v }

/-- A raised error rejects the operation: it writes ERR and nothing else (R97). -/
def reject (e : ErrCode) (s : State) : State := answer .rejected (raise e s)

/-- Step 3 of R97's order: an operation other than NOP is refused while OPBLOCKED holds. -/
def unlessBlocked (s : State) (effect : State → State) : Result :=
  .next (if opBlocked s then reject .opBusy s else effect s)

/-! ## Exchange (R320) -/

/-- A request on XP: XPEND is set and the request is issued with XCHG_TIMEOUT (R320). -/
def issueRequest (tx : List Byte) (m : Nat) (s : State) : State :=
  { s with xpend := true,
           ports := { s.ports with requests := ⟨tx, m, s.params.xchgTimeout⟩ :: s.ports.requests } }

/-- RXBUF with its first `m` bytes replaced: byte `i` becomes `f i` of the byte it held (R320, R37). -/
def RxBuf.fill (m : Nat) (f : Nat → Byte → Byte) (r : RxBuf) : RxBuf where
  b0 := if 0 < m then f 0 r.b0 else r.b0
  b1 := if 1 < m then f 1 r.b1 else r.b1
  b2 := if 2 < m then f 2 r.b2 else r.b2
  b3 := if 3 < m then f 3 r.b3 else r.b3
  b4 := if 4 < m then f 4 r.b4 else r.b4

/-- The response is OK: the `m` bytes are written together, the others keep their values (R69, R320). -/
def takeReply (m : Nat) (bytes : List Byte) (s : State) : State :=
  { s with xpend := false, rxlen := BitVec.ofNat 3 m, xst := .ok,
           rx := s.rx.fill m fun i old => bytes.getD i old }

/-- `TimeoutRecord()` (R327). -/
def timeoutRecord (s : State) : State :=
  let s := raise .exchangeTimeout s
  { s with tocnt := s.tocnt + 1#32 }

/-- RXFILL: a byte of a timed-out exchange becomes 0x00 or keeps its value (R320). -/
def rxFill (zeroed : BitVec 5) (i : Nat) (old : Byte) : Byte := if zeroed.getLsbD i then 0x00#8 else old

/-- The response is TIMEOUT (R320). -/
def takeTimeout (m : Nat) (zeroed : BitVec 5) (s : State) : State :=
  timeoutRecord
    { s with xpend := false, rxlen := BitVec.ofNat 3 m, xst := .timedOut, rx := s.rx.fill m (rxFill zeroed) }

/-- The response of an environment that has scripted none: any `m` bytes, or a timeout (93 item 19; log 2). -/
def freeReply (n m : Nat) : Reply :=
  if Config.freeTimeout n then .timeout (Config.freeFill n)
  else .ok ((List.range m).map (Config.freeReplyByte n))

/-- The effect of a response that honours the port contract. -/
def takeResponse (m : Nat) (r : Reply) (s : State) : State :=
  match r with
  | .ok bytes => takeReply m bytes s
  | .timeout zeroed => takeTimeout m zeroed s

/-- The transport answers: the next scripted response, or a free one. One response is taken per request (R385). -/
def nextReply (m : Nat) (s : State) : Reply × State :=
  match s.ports.replies with
  | r :: rest => (r, { s with ports := { s.ports with replies := rest } })
  | [] => (freeReply s.draws m, { s with draws := s.draws + 1 })

/-- Whether the next response keeps the port contract; a free one does by what it is. -/
def replyFits (m : Nat) (s : State) : Bool :=
  match s.ports.replies with
  | r :: _ => r.fits m
  | [] => true

/-- The state after `Exchange(tx, m)` when the response keeps the port contract (R320). -/
def exchanged (tx : List Byte) (m : Nat) (s : State) : State :=
  let s := issueRequest tx m s
  let (r, s) := nextReply m s
  takeResponse m r s

/-- `Exchange(tx, m)`, one atomic step (R320). A response of another length is outside the port contract (log 12). -/
def exchange (tx : List Byte) (m : Nat) (s : State) : Result :=
  if replyFits m s then .next (exchanged tx m s) else .fault .replyLength

/-! ## Probe (R325) -/

/-- The probe request: XPEND is set and the request is issued on PP. -/
def issueProbe (s : State) : State :=
  { s with xpend := true, ports := { s.ports with probeCount := s.ports.probeCount + 1 } }

/-- The probe word: the next scripted one, or a free one. -/
def nextProbe (s : State) : Word × State :=
  match s.ports.probes with
  | p :: rest => (p, { s with ports := { s.ports with probes := rest } })
  | [] => (Config.freeProbe s.draws, { s with draws := s.draws + 1 })

/-- `Probe()`: a probe cannot time out and does not touch RXBUF (R325). -/
def probe (s : State) : Word × State :=
  let (p, s) := nextProbe (issueProbe s)
  (p, { s with xpend := false })

/-! ## The read-back port (R21, R38, R103): no side effect; an index that names no register reads as 0 -/

/-- The register that REGIDX selects. -/
def readBack (s : State) (regidx : BitVec 5) : Word :=
  match regidx.toNat with
  | 0 => s.key
  | 1 => s.csum
  | 2 => s.localKey
  | 3 => s.remoteKey
  | 4 => s.cursor
  | 5 => s.window
  | 6 => s.imgLen
  | 7 => s.opr
  | 8 => linkWord s
  | 9 => sstatWord s
  | 10 => errWord s
  | 11 => s.tocnt
  | 12 => s.usercnt
  | 13 => s.lastrx
  | 14 => s.ack
  | 15 => rxWord s
  | 16 => rxxWord s
  | _ => 0#32

/-! ## The image port as an input (R42, R388) -/

/-- One draw of a free value. -/
def drawn (s : State) : State := { s with draws := s.draws + 1 }

/-- The image is no longer the one the upload started with: what it sends from here on is any value, and so is the sum
under way (R75, R388; log 8). -/
def breakImage (s : State) : State :=
  if checksumUnderWay s then drawn { s with imgBroken := true, csum := Config.freeCsum s.draws }
  else { s with imgBroken := true }

/-- A change of the image port counts from the START that begins an upload to the upload's end (R388; log 8). -/
def markImageChange (changed : Bool) (s : State) : State := if changed && imageHeld s then breakImage s else s

/-- IMG_LEN changes to `n`. -/
def setImageLen (n : Word) (s : State) : State :=
  let s := markImageChange (n != s.ports.imgLen) s
  { s with ports := { s.ports with imgLen := n } }

/-- IMG_BYTE(a) changes to `b`. Only offsets below IMG_LEN can be read, so only there is it a change of the image. -/
def setImageByte (a : Word) (b : Byte) (s : State) : State :=
  let s := markImageChange (decide (a < s.ports.imgLen) && b != Memory.read s.ports.image a.toNat) s
  { s with ports := { s.ports with image := Memory.write s.ports.image a.toNat b } }

end Sys2Proof.Machine
end

