-- ==== Sys2Proof/Machine/Operands.lean ====
section
/-! DEFINITION. Operand forms: byte-swapped words, image words, alignment, and the values of wire frames. -/

namespace Sys2Proof.Machine

/-- `bswap32` (R11). -/
def bswap32 (v : Word) : Word := le32 (byteOf 3 v) (byteOf 2 v) (byteOf 1 v) (byteOf 0 v)

/-- An offset that is a multiple of 4 (R68; `v mod 4` is `v & 3`, R10). -/
def aligned4 (o : Word) : Bool := o &&& 3#32 == 0#32

/-- One byte of `MemRead`: the image byte below IMG_LEN, zero at or beyond it; the offset is not wrapped
(R61; log 23). -/
def imageByte (s : State) (a : Nat) : Byte :=
  if a < s.ports.imgLen.toNat then Memory.read s.ports.image a else 0#8

/-- `ImageWord(o) = MemRead(o, 4)`, little-endian (R61 to R63). -/
def imageWord (s : State) (o : Word) : Word :=
  le32 (imageByte s o.toNat) (imageByte s (o.toNat + 1)) (imageByte s (o.toNat + 2)) (imageByte s (o.toNat + 3))

/-- The transfer window of a length: `(L + 7) & ~7` (R251). -/
def windowOf (len : Word) : Word := (len + 7#32) &&& ~~~7#32

/-- The Write frame of the local key, most significant byte first (R64, R159). -/
def localKeyFrame (k : Word) : List Byte := [0x15#8, byteOf 3 k, byteOf 2 k, byteOf 1 k, byteOf 0 k]

/-- The Write frame of the header word at `o`: the image bytes in ascending order (R67, R258). -/
def headerFrame (s : State) (o : Word) : List Byte :=
  [0x15#8, imageByte s o.toNat, imageByte s (o.toNat + 1), imageByte s (o.toNat + 2), imageByte s (o.toNat + 3)]

end Sys2Proof.Machine
end

