-- ==== Sys2Proof/Machine/Control.lean ====
section
/-! DEFINITION. NOP (30_encoding.md R96) and the sixteen reserved rows (R98), whose effect is to raise ReservedOp: the
first check of R97, before OPBLOCKED. -/

namespace Sys2Proof.Machine

/-- NOP: always accepted, even while BUSY; OPR is not written (R96). -/
def execNop (s : State) : Result := .next (answer .accepted s)

/-- A reserved word raises ReservedOp, and nothing else changes (R98, R348). -/
def reservedWord (s : State) : Result := .next (reject .reservedOp s)

/-- OPC = 0xF with OPW[7:4] = 0 (R98). -/
def execReservedOpcF (s : State) : Result := reservedWord s

/-- OPW[7:4] = 0x1 (R98): the code is ignored. -/
def execReservedMbz1 (_opc : BitVec 4) (s : State) : Result := reservedWord s

/-- OPW[7:4] = 0x2 (R98): the code is ignored. -/
def execReservedMbz2 (_opc : BitVec 4) (s : State) : Result := reservedWord s

/-- OPW[7:4] = 0x3 (R98): the code is ignored. -/
def execReservedMbz3 (_opc : BitVec 4) (s : State) : Result := reservedWord s

/-- OPW[7:4] = 0x4 (R98): the code is ignored. -/
def execReservedMbz4 (_opc : BitVec 4) (s : State) : Result := reservedWord s

/-- OPW[7:4] = 0x5 (R98): the code is ignored. -/
def execReservedMbz5 (_opc : BitVec 4) (s : State) : Result := reservedWord s

/-- OPW[7:4] = 0x6 (R98): the code is ignored. -/
def execReservedMbz6 (_opc : BitVec 4) (s : State) : Result := reservedWord s

/-- OPW[7:4] = 0x7 (R98): the code is ignored. -/
def execReservedMbz7 (_opc : BitVec 4) (s : State) : Result := reservedWord s

/-- OPW[7:4] = 0x8 (R98): the code is ignored. -/
def execReservedMbz8 (_opc : BitVec 4) (s : State) : Result := reservedWord s

/-- OPW[7:4] = 0x9 (R98): the code is ignored. -/
def execReservedMbz9 (_opc : BitVec 4) (s : State) : Result := reservedWord s

/-- OPW[7:4] = 0xA (R98): the code is ignored. -/
def execReservedMbzA (_opc : BitVec 4) (s : State) : Result := reservedWord s

/-- OPW[7:4] = 0xB (R98): the code is ignored. -/
def execReservedMbzB (_opc : BitVec 4) (s : State) : Result := reservedWord s

/-- OPW[7:4] = 0xC (R98): the code is ignored. -/
def execReservedMbzC (_opc : BitVec 4) (s : State) : Result := reservedWord s

/-- OPW[7:4] = 0xD (R98): the code is ignored. -/
def execReservedMbzD (_opc : BitVec 4) (s : State) : Result := reservedWord s

/-- OPW[7:4] = 0xE (R98): the code is ignored. -/
def execReservedMbzE (_opc : BitVec 4) (s : State) : Result := reservedWord s

/-- OPW[7:4] = 0xF (R98): the code is ignored. -/
def execReservedMbzF (_opc : BitVec 4) (s : State) : Result := reservedWord s

end Sys2Proof.Machine
end

