-- ==== Sys2Proof/Machine/Link.lean ====
section
/-! DEFINITION. The link monitor (44_link_monitor.md) and its operations. -/

namespace Sys2Proof.Machine

/-- The classes of a probe word (R222). -/
inductive ProbeClass where
  | inconclusive
  | connectedType
  | spurious
  | otherType
deriving DecidableEq, Repr

/-- Classification: a non-zero error code wins; the peer type is compared on all of bits 31:8 (R222). -/
def classify (p : Config.Params) (q : Word) : ProbeClass :=
  if q &&& 0xFF#32 ≠ 0#32 then .inconclusive
  else if q &&& 0xFFFFFF00#32 = p.peerTypeOk then .connectedType
  else if q &&& 0xFFFFFF00#32 = p.peerTypeSpurious then .spurious
  else .otherType

/-- The counter after an inconclusive probe: it stays at 0 (R223). -/
def countDown (d : Byte) : Byte := if 0#8 < d then d - 1#8 else d

/-- The effect of a probe word on the link monitor (R223 to R226). -/
def linkUpdate (p : Word) (s : State) : State :=
  match classify s.params p with
  | .inconclusive =>
    { s with dcnt := countDown s.dcnt, lstat := if countDown s.dcnt = 0#8 then .noPeer else s.lstat }
  | .connectedType => { s with lstat := .connected, dcnt := s.params.debounceSeed }
  | .spurious => s
  | .otherType => { s with lstat := .wrongPeerType, dcnt := s.params.debounceSeed }

/-- The link is forced down (R229, R294). -/
def linkDrop (s : State) : State := { s with dcnt := 0#8, lstat := .noPeer }

/-- LPOLL (R228): no probe is issued. -/
def execLpoll (p : Word) (s : State) : Result :=
  unlessBlocked s fun s => accept (linkWord (linkUpdate p s)) (linkUpdate p s)

/-- LDROP (R229). -/
def execLdrop (s : State) : Result :=
  unlessBlocked s fun s => accept (linkWord (linkDrop s)) (linkDrop s)

end Sys2Proof.Machine
end

