-- ==== Sys2Proof/Machine/Checksum.lean ====
section
/-! DEFINITION. The checksum accumulator (40_checksum.md) and its operations. -/

namespace Sys2Proof.Machine

/-- `n` iterations of the fold (R131), bit 0 of the checksum and of the remaining word compared (R132). -/
def foldBits (poly : Word) : Nat → Word → Word → Word
  | 0, c, _ => c
  | n + 1, c, w =>
    foldBits poly n (if (c ^^^ w) &&& 1#32 = 1#32 then (c >>> 1) ^^^ poly else c >>> 1) (w >>> 1)

/-- `fold(c, w)`: 32 iterations, the bits of `w` least significant first, with the constant CSUM_POLY (R131). -/
def fold (p : Config.Params) (c w : Word) : Word := foldBits p.csumPoly 32 c w

/-- Finalization: the length's low half is ORed into the top half (R136). -/
def finalize (c len : Word) : Word := c ||| (len <<< 16)

/-- CSUM_INIT (R137). -/
def execCsumInit (s : State) : Result :=
  unlessBlocked s fun s => accept s.params.csumSeed { s with csum := s.params.csumSeed }

/-- CSUM_FOLD (R138). -/
def execCsumFold (w : Word) (s : State) : Result :=
  unlessBlocked s fun s => accept (fold s.params s.csum w) { s with csum := fold s.params s.csum w }

/-- CSUM_FINAL (R139). -/
def execCsumFinal (len : Word) (s : State) : Result :=
  unlessBlocked s fun s => accept (finalize s.csum len) { s with csum := finalize s.csum len }

end Sys2Proof.Machine
end

