-- ==== Sys2Proof/Machine/Cipher.lean ====
section
/-! DEFINITION. The stream-cipher engine (42_stream_cipher.md) and its operations. -/

namespace Sys2Proof.Machine

/-- `adv(k)`, the key advance (R181). The constant stands first, so that the kernel does not unfold a product by it. -/
def adv (p : Config.Params) (k : Word) : Word := p.lcgMul * k + p.lcgInc

/-- `mask(k, o)` (R183); the bias stands first for the same reason. -/
def cipherMask (p : Config.Params) (k o : Word) : Word := k ^^^ (-(p.maskOfsBias + o)) ^^^ p.maskConst

/-- KADV (R186). -/
def execKadv (s : State) : Result :=
  unlessBlocked s fun s => accept (adv s.params s.key) { s with key := adv s.params s.key }

/-- MASK (R187): the current mask, without advancing the key. -/
def execMask (o w : Word) (s : State) : Result :=
  unlessBlocked s fun s => accept (w ^^^ cipherMask s.params s.key o) s

/-- CRYPT (R188): advances the key, then masks with the new key. -/
def execCrypt (o w : Word) (s : State) : Result :=
  unlessBlocked s fun s =>
    accept (w ^^^ cipherMask s.params (adv s.params s.key) o) { s with key := adv s.params s.key }

end Sys2Proof.Machine
end

