-- ==== Sys2Proof/Machine/KeyExchange.lean ====
section
/-! DEFINITION. Key derivation, remote-key decoding and cipher seeding (41_key_exchange.md), and their operations. -/

namespace Sys2Proof.Machine

/-- Step 1: `n = (W - 0x200) >> 3` (R151). -/
def kdfIndex (p : Config.Params) (w : Word) : Word := (w - p.minWindow) >>> 3

/-- Step 2: the intermediate value I (R152). -/
def kdfSpread (p : Config.Params) (n : Word) : Word :=
  ((n &&& 0x3F80#32) <<< 1) ||| ((n &&& 0x4000#32) <<< 2) ||| (n &&& 0x007F#32) ||| p.kdfTag

/-- Step 3: the sum S of the shifts of I (R153). -/
def kdfSum (p : Config.Params) (i : Word) : Word := (i >>> 8) + (i >>> 16) + (if p.kdfSumSelf then i else 0#32)

/-- Step 3: the value V (R153). -/
def kdfMix (p : Config.Params) (i : Word) : Word := (kdfSum p i <<< 24) ||| i ||| p.kdfOrMask

/-- Step 4: the key of V (R154). -/
def kdfKey (p : Config.Params) (v : Word) : Word := bswap32 v ^^^ (if v.getLsbD 9 then p.kdfC1 else p.kdfC0)

/-- `deriveLocalKey(W)` for `W >= 0x200` (R150 to R154). -/
def deriveLocalKey (p : Config.Params) (w : Word) : Word := kdfKey p (kdfMix p (kdfSpread p (kdfIndex p w)))

/-- The remote key of a received word (R157). -/
def decodeRemoteKey (p : Config.Params) (rw : Word) : Word := rw ^^^ p.remoteKeyXor

/-- SEED_FN (R160; log 5). -/
def seedKey (p : Config.Params) (l r : Word) : Word :=
  match p.seedFn with
  | .remote => r
  | .other => Config.otherSeed l r

/-- KDF (R156): a window below 0x200 is refused with WindowTooSmall. -/
def execKdf (w : Word) (s : State) : Result :=
  unlessBlocked s fun s =>
    if w < s.params.minWindow then reject .windowTooSmall s
    else accept (deriveLocalKey s.params w) { s with localKey := deriveLocalKey s.params w }

/-- RKEY (R158). -/
def execRkey (rw : Word) (s : State) : Result :=
  unlessBlocked s fun s => accept (decodeRemoteKey s.params rw) { s with remoteKey := decodeRemoteKey s.params rw }

/-- KSEED (R161). -/
def execKseed (s : State) : Result :=
  unlessBlocked s fun s =>
    accept (seedKey s.params s.localKey s.remoteKey) { s with key := seedKey s.params s.localKey s.remoteKey }

end Sys2Proof.Machine
end

