-- ==== Sys2Proof/Machine/Uploader.lean ====
section
/-! DEFINITION. The uploader's datapath (45_uploader.md): its three operations, and the frame each of its exchanges
sends. -/

namespace Sys2Proof.Machine

/-- IMGRD (R265): a misaligned offset is refused; the length is the current IMG_LEN. -/
def execImgrd (o : Word) (s : State) : Result :=
  unlessBlocked s fun s =>
    if aligned4 o then accept (imageWord s o) s else reject .misalignedOffset s

/-- PAYW (R266): one payload word, without the exchange and without CURSOR. -/
def execPayw (o : Word) (s : State) : Result :=
  unlessBlocked s fun s =>
    if aligned4 o then
      accept (imageWord s o ^^^ cipherMask s.params (adv s.params s.key) o)
        { s with csum := fold s.params s.csum (imageWord s o), key := adv s.params s.key }
    else reject .misalignedOffset s

/-- SEAL (R267): the trailer step, without the exchange. -/
def execSeal (len o : Word) (s : State) : Result :=
  unlessBlocked s fun s =>
    accept (finalize s.csum len ^^^ cipherMask s.params (adv s.params s.key) o)
      { s with csum := finalize s.csum len, key := adv s.params s.key }

/-! ## What each exchange of an upload does before it is issued, and the frame it sends

If the image changed since the START of the upload, the value of every Write from then on and the checksum are free
(R75, R388, 93 item 13; log 8); everything else is as stated. -/

/-- The length that finalizes the checksum (R136, R260). -/
def checksumLen (s : State) : Word :=
  match s.params.csumLenField with
  | .imageLength => s.imgLen
  | .windowSize => s.window

/-- Step 3: the local key is derived and sent (R256). -/
def prepareLocalKey (s : State) : State × List Byte :=
  let k := deriveLocalKey s.params s.window
  if s.imgBroken then (drawn { s with localKey := k }, writeFrame (Config.freeSent s.draws))
  else ({ s with localKey := k }, localKeyFrame k)

/-- Step 4: the header word at CURSOR, neither folded nor ciphered (R258). -/
def prepareHeader (s : State) : State × List Byte :=
  if s.imgBroken then (drawn s, writeFrame (Config.freeSent s.draws))
  else (s, headerFrame s s.cursor)

/-- Step 5: the payload word at CURSOR is folded, the key is advanced, the word is masked (R259, R387). -/
def preparePayload (s : State) : State × List Byte :=
  if s.imgBroken then
    (drawn { s with csum := Config.freeCsum s.draws, key := adv s.params s.key }, writeFrame (Config.freeSent s.draws))
  else
    let w := imageWord s s.cursor
    ({ s with csum := fold s.params s.csum w, key := adv s.params s.key },
      writeFrame (w ^^^ cipherMask s.params (adv s.params s.key) s.cursor))

/-- Step 6: the checksum is finalized, the key is advanced, the checksum is masked at offset W (R260). -/
def prepareTrailer (s : State) : State × List Byte :=
  if s.imgBroken then
    (drawn { s with csum := Config.freeCsum s.draws, key := adv s.params s.key }, writeFrame (Config.freeSent s.draws))
  else
    let c := finalize s.csum (checksumLen s)
    ({ s with csum := c, key := adv s.params s.key },
      writeFrame (c ^^^ cipherMask s.params (adv s.params s.key) s.window))

end Sys2Proof.Machine
end

