-- ==== Sys2Proof/Machine/Wire.lean ====
section
/-! DEFINITION. The four wire commands (47_link_commands.md): each is one exchange. What the frame action does with the
reply stands in Machine/Sequencer.lean (log 21). -/

namespace Sys2Proof.Machine

/-- Reset: one byte sent, three expected (R321). -/
def execWireReset (s : State) : Result := exchange [0xFF#8] 3 s

/-- Status: one byte sent, three expected (R322). -/
def execWireStatus (s : State) : Result := exchange [0x00#8] 3 s

/-- Read: one byte sent, five expected (R323). -/
def execWireRead (s : State) : Result := exchange [0x14#8] 5 s

/-- Write: five bytes sent, one expected (R324). -/
def execWireWrite (v : Word) (s : State) : Result := exchange (writeFrame v) 1 s

end Sys2Proof.Machine
end

