-- ==== Sys2Proof/Machine/Dispatch.lean ====
section
/-! DEFINITION. One arm per instruction, each one call of its meaning. -/

namespace Sys2Proof.Machine

-- The state is the one in which the instruction is taken: for an operation, after the input has left its queue.
def exec (i : Instr) (s : State) : Host.Outcome State Fault Refusal :=
  match i with
  | .nop => Sys2Proof.Machine.execNop s
  | .csumInit => Sys2Proof.Machine.execCsumInit s
  | .csumFold w => Sys2Proof.Machine.execCsumFold w s
  | .csumFinal len => Sys2Proof.Machine.execCsumFinal len s
  | .kdf window => Sys2Proof.Machine.execKdf window s
  | .rkey rw => Sys2Proof.Machine.execRkey rw s
  | .kseed => Sys2Proof.Machine.execKseed s
  | .kadv => Sys2Proof.Machine.execKadv s
  | .mask o w => Sys2Proof.Machine.execMask o w s
  | .crypt o w => Sys2Proof.Machine.execCrypt o w s
  | .imgrd o => Sys2Proof.Machine.execImgrd o s
  | .payw o => Sys2Proof.Machine.execPayw o s
  | .sealCsum len o => Sys2Proof.Machine.execSeal len o s
  | .lpoll p => Sys2Proof.Machine.execLpoll p s
  | .ldrop => Sys2Proof.Machine.execLdrop s
  | .reservedOpcF => Sys2Proof.Machine.execReservedOpcF s
  | .reservedMbz1 opc => Sys2Proof.Machine.execReservedMbz1 opc s
  | .reservedMbz2 opc => Sys2Proof.Machine.execReservedMbz2 opc s
  | .reservedMbz3 opc => Sys2Proof.Machine.execReservedMbz3 opc s
  | .reservedMbz4 opc => Sys2Proof.Machine.execReservedMbz4 opc s
  | .reservedMbz5 opc => Sys2Proof.Machine.execReservedMbz5 opc s
  | .reservedMbz6 opc => Sys2Proof.Machine.execReservedMbz6 opc s
  | .reservedMbz7 opc => Sys2Proof.Machine.execReservedMbz7 opc s
  | .reservedMbz8 opc => Sys2Proof.Machine.execReservedMbz8 opc s
  | .reservedMbz9 opc => Sys2Proof.Machine.execReservedMbz9 opc s
  | .reservedMbzA opc => Sys2Proof.Machine.execReservedMbzA opc s
  | .reservedMbzB opc => Sys2Proof.Machine.execReservedMbzB opc s
  | .reservedMbzC opc => Sys2Proof.Machine.execReservedMbzC opc s
  | .reservedMbzD opc => Sys2Proof.Machine.execReservedMbzD opc s
  | .reservedMbzE opc => Sys2Proof.Machine.execReservedMbzE opc s
  | .reservedMbzF opc => Sys2Proof.Machine.execReservedMbzF opc s
  | .wireReset => Sys2Proof.Machine.execWireReset s
  | .wireStatus => Sys2Proof.Machine.execWireStatus s
  | .wireRead => Sys2Proof.Machine.execWireRead s
  | .wireWrite v => Sys2Proof.Machine.execWireWrite v s

end Sys2Proof.Machine
end

