-- ==== Sys2Proof/Machine/Sequencer.lean ====
section
/-! DEFINITION. The frame action: the session state machine (46_session.md), the handshake (43_handshake.md) and the
upload's steps (45_uploader.md), cut into the atomic steps of R7. A step of the frame action is the probe or one exchange,
with what its rule states around it: `prepare` before an exchange, `resume` after it (log 3). -/

namespace Sys2Proof.Machine

/-! ## The ends of a frame action -/

/-- The frame action ends (R291). -/
def endFrame (s : State) : State := { s with busy := false, atfb := true, seq := .none }

/-- The frame action goes on with one more step. -/
def goOn (next : SeqStep) (s : State) : State := { s with seq := next }

/-- The upload enters a phase whose first exchange is `next` (R253). -/
def enterPhase (phase : UploadPhase) (next : SeqStep) (s : State) : State := goOn next { s with uph := phase }

/-! ## Falling back -/

/-- The error of a link that is not Connected (R202, R296, R343, R344). -/
def linkError (l : LinkStatus) : ErrCode := if l = .noPeer then .peerAbsent else .peerWrongType

/-- `FallBack()` (R296): HSST and UPH are unchanged. -/
def fallBack (s : State) : State := raise (linkError s.lstat) { s with ustate := .waitingForPeer }

/-! ## The handshake (R200 to R207) -/

/-- Starting a handshake, whatever HSST was (R201). -/
def startHandshake (s : State) : State := { s with hsst := .awaitingBios, hsp := false }

/-- The abort of an iteration that finds the link not Connected (R202). -/
def abortHandshake (s : State) : State :=
  raise (linkError s.lstat) { s with hsst := .inactive, hsp := false }

/-- The start of an iteration on a Connected link: the Reset exchange is next (R202). -/
def beginIteration (s : State) : State := goOn .hsReset { s with hsp := false }

/-! ## The state actions, up to their first exchange -/

/-- A handshake iteration of WaitingForPeer (R292). -/
def waitingIteration (s : State) : State :=
  if s.lstat = .connected then beginIteration s else endFrame (abortHandshake s)

/-- The WaitingForPeer action (R292). -/
def waitingAction (s : State) : State :=
  if s.hsst = .awaitingBios then waitingIteration s
  else if s.lstat = .connected then waitingIteration (startHandshake s)
  else endFrame s

/-- A handshake iteration of an upload's step 1; an abort is the outcome LinkLost (R254, R293). -/
def uploadIteration (s : State) : State :=
  if s.lstat = .connected then beginIteration s
  else endFrame { abortHandshake s with uph := .failed, ustate := .waitingForPeer }

/-- An upload that its validation rejects: the outcome Failed, USTATE stays PeerReady (R252, R293). -/
def rejectImage (e : ErrCode) (s : State) : State := endFrame { raise e s with uph := .failed }

/-- The start of an upload: IMGLEN is latched, the image is validated, step 1 starts (R250 to R252, R254). -/
def uploadBegin (s : State) : State :=
  let s := { s with imgLen := s.ports.imgLen }
  if aligned4 s.imgLen = false then rejectImage .malformedImage s
  else if s.params.maxImageLen < s.imgLen then rejectImage .imageTooLarge s
  else
    let s := { s with window := windowOf s.imgLen }
    if s.window < s.params.minWindow then rejectImage .windowTooSmall s
    else uploadIteration (startHandshake { s with uph := .handshake })

/-- The PeerReady action (R293). -/
def readyAction (s : State) : State :=
  if s.uph = .handshake then uploadIteration s
  else if s.lstat ≠ .connected then endFrame (fallBack s)
  else if s.trig.start then uploadBegin s
  else endFrame s

/-- The Idle action (R294): DISC first, then the link test, then the read. -/
def idleAction (s : State) : State :=
  if s.trig.disc then endFrame { linkDrop s with ustate := .waitingForPeer }
  else if s.lstat ≠ .connected then endFrame (fallBack s)
  else goOn .idleRead s

/-- The action of the current UploadState (R291). -/
def stateAction (s : State) : State :=
  match s.ustate with
  | .waitingForPeer => waitingAction s
  | .peerReady => readyAction s
  | .idle => idleAction s

/-! ## The first two steps of a frame action (R291) -/

/-- A FRAME tick: it starts a frame action if ATFB is 1, and is lost if not (R291, R295). The START that it samples opens
the interval of R388, so outside an upload in its step 1 no change of the image has been seen yet (log 8). -/
def frameTick (levels : Triggers) (s : State) : State :=
  if s.atfb then
    { s with atfb := false, busy := true, trig := levels, seq := .probe, imgBroken := s.imgBroken && uploadActive s }
  else s

/-- The probe, the link update, and the state action up to its first exchange (R227, R291). -/
def probeStep (s : State) : State :=
  let (p, s) := probe s
  stateAction (linkUpdate p s)

/-! ## Before an exchange: the frame that is sent -/

/-- What the step does before its exchange, and the frame it sends. Empty where no exchange is next. -/
def prepare (s : State) : State × List Byte :=
  match s.seq with
  | .none => (s, [])
  | .probe => (s, [])
  | .hsReset => (s, [0xFF#8])
  | .hsStatus => (s, [0x00#8])
  | .remoteKey => (s, [0x14#8])
  | .localKey => prepareLocalKey s
  | .header => prepareHeader s
  | .payload => preparePayload s
  | .trailer => prepareTrailer s
  | .ack => (s, [0x14#8])
  | .idleRead => (s, [0x14#8])
  | .idleWrite => (s, writeFrame s.usercnt)

/-! ## After an exchange -/

/-- After the Reset exchange its reply is ignored and Status is next (R202, R204). -/
def afterReset (s : State) : State := goOn .hsStatus { s with hsp := true }

/-- After the Status exchange: READY ends the handshake, and with it the frame action of WaitingForPeer or step 1 of the
upload; otherwise the next frame tries again (R202, R203, R254, R292). -/
def afterStatus (s : State) : State :=
  let s := { s with hsp := false }
  if peerIsReady s then
    let s := { s with hsst := .ready }
    match s.ustate with
    | .waitingForPeer => endFrame { s with ustate := .peerReady }
    | .peerReady => enterPhase .remoteKey .remoteKey s
    | .idle => endFrame s
  else endFrame s

/-- TransferFailure: the upload stops, USTATE stays PeerReady (R263, R351). -/
def failTransfer (s : State) : State := endFrame { raise .transferFailure s with uph := .failed }

/-- What an upload's steps 2 to 7 do after their exchange, unless it ends the upload (R263; log 13). -/
def unlessAborted (s : State) (effect : State → State) : State :=
  if transferAborts s then failTransfer s else effect s

/-- Step 2 (R255). -/
def afterRemoteKey (s : State) : State :=
  enterPhase .localKey .localKey { s with remoteKey := decodeRemoteKey s.params (rxWord s) }

/-- Step 3's end: the session starts (R257). -/
def afterLocalKey (s : State) : State :=
  enterPhase .header .header
    { s with key := seedKey s.params s.localKey s.remoteKey, csum := s.params.csumSeed, cursor := 0#32 }

/-- The payload loop's test: a payload word is next while CURSOR is below WINDOW, else the trailer (R259). -/
def payloadOrTrailer (s : State) : State :=
  if s.cursor < s.window then enterPhase .payload .payload s else enterPhase .trailer .trailer s

/-- Step 4 after one word (R258). -/
def afterHeader (s : State) : State :=
  let s := { s with cursor := s.cursor + 4#32 }
  if s.cursor < s.params.headerLen then goOn .header s else payloadOrTrailer s

/-- Step 5 after one word (R259). -/
def afterPayload (s : State) : State := payloadOrTrailer { s with cursor := s.cursor + 4#32 }

/-- Step 6 (R260). -/
def afterTrailer (s : State) : State := enterPhase .ack .ack s

/-- Step 7: the reply is recorded and not validated, the outcome is Success (R261, R293). -/
def afterAck (s : State) : State := endFrame { s with ack := rxWord s, uph := .done, ustate := .idle }

/-- The has-data hint of an Idle read: HASDATA takes it, LASTRX takes the value only if it is set (R294). -/
def takeHint (s : State) : State :=
  { s with hasData := hasDataHint s, lastrx := if hasDataHint s then rxWord s else s.lastrx }

/-- INC, then DEC, on the user counter (R294). -/
def countTriggers (t : Triggers) (v : Word) : Word :=
  let v := if t.inc then v + 1#32 else v
  if t.dec then v - 1#32 else v

/-- After the Idle read: hint, counter, and the write if SEND is set (R294, R297). -/
def afterIdleRead (s : State) : State :=
  let s := takeHint s
  let s := { s with usercnt := countTriggers s.trig s.usercnt }
  if s.trig.send then goOn .idleWrite s else endFrame s

/-- What the frame action does after the exchange of step `at_`. -/
def resume (at_ : SeqStep) (s : State) : State :=
  match at_ with
  | .none => s
  | .probe => s
  | .hsReset => afterReset s
  | .hsStatus => afterStatus s
  | .remoteKey => unlessAborted s afterRemoteKey
  | .localKey => unlessAborted s afterLocalKey
  | .header => unlessAborted s afterHeader
  | .payload => unlessAborted s afterPayload
  | .trailer => unlessAborted s afterTrailer
  | .ack => unlessAborted s afterAck
  | .idleRead => afterIdleRead s
  | .idleWrite => endFrame s

/-! ## RESET (R380, R381) -/

/-- The state after reset under given parameters: CSUM holds CSUM_SEED, which is 0x15A0 (R381; log 4). -/
def State.resetWith (p : Config.Params) (ports : Ports) : State :=
  { State.reset with csum := p.csumSeed, params := p, ports := ports }

/-- Every piece of LINKCORE's state takes its reset value; the parameters and the ports are kept (R381; log 16). -/
def resetAll (s : State) : State := { State.resetWith s.params s.ports with draws := s.draws }

end Sys2Proof.Machine
end

