-- ==== Sys2Proof/Machine/Step.lean ====
section
/-! DEFINITION. One atomic step (00_scope.md R7): the next input, or the next step of the frame action in progress. -/

namespace Sys2Proof.Machine

/-- The state without its first input. -/
def takeInput (s : State) : State := { s with ports := { s.ports with inputs := s.ports.inputs.tail } }

/-- Decodes the bytes at a port and runs the instruction they are. -/
def runBytes (p : Port) (bytes : List Byte) (s : State) : Host.Outcome State Fault Refusal :=
  match decode p bytes with
  | .ok i => exec i s
  | .error e => .refused (.undecodable e)

/-- One exchange of the frame action: what precedes it, the wire command that its frame is, what follows it. -/
def exchangeStep (s : State) : Host.Outcome State Fault Refusal :=
  match runBytes .wire (prepare s).2 (prepare s).1 with
  | .next t => .next (resume s.seq t)
  | .fault r => .fault r
  | .refused r => .refused r

/-- No input arrives: the frame action in progress takes its next step; with none in progress the block is idle and
keeps all its state (R366; log 17). -/
def advance (s : State) : Host.Outcome State Fault Refusal :=
  match s.seq with
  | .none => .next s
  | .probe => .next (probeStep s)
  | .hsReset => exchangeStep s
  | .hsStatus => exchangeStep s
  | .remoteKey => exchangeStep s
  | .localKey => exchangeStep s
  | .header => exchangeStep s
  | .payload => exchangeStep s
  | .trailer => exchangeStep s
  | .ack => exchangeStep s
  | .idleRead => exchangeStep s
  | .idleWrite => exchangeStep s

/-- One step. An input falls between two steps of a frame action (R291, R354, R380). -/
def step (s : State) : Host.Outcome State Fault Refusal :=
  match s.ports.inputs with
  | [] => advance s
  | .quiet :: _ => advance (takeInput s)
  | .op t :: _ => runBytes .op t.bytes (takeInput s)
  | .frame levels :: _ => .next (frameTick levels (takeInput s))
  | .reset :: _ => .next (resetAll (takeInput s))
  | .imageLen n :: _ => .next (setImageLen n (takeInput s))
  | .imageByte a b :: _ => .next (setImageByte a b (takeInput s))
  | .response _ :: _ => .fault .unsolicitedResponse

/-- The state with one more input, first to arrive. -/
def State.withInput (s : State) (i : Input) : State :=
  { s with ports := { s.ports with inputs := i :: s.ports.inputs } }

/-- The state in a frame action whose next step is `at_`, with no input before it. -/
def State.atStep (s : State) (at_ : SeqStep) : State :=
  { s.withInput .quiet with busy := true, atfb := false, seq := at_ }

/-- The state in which the frame action issues the wire frame that the number `w` is: Reset and Status in a handshake,
Read and Write in Idle, where a Write carries the user counter (R294). -/
def State.withWireWord (s : State) (w : Nat) : State :=
  if w % 256 = 0xFF then { s.atStep .hsReset with hsst := .awaitingBios, hsp := false }
  else if w % 256 = 0x00 then { s.atStep .hsStatus with hsst := .awaitingBios, hsp := true }
  else if w % 256 = 0x14 then { s.atStep .idleRead with ustate := .idle }
  else { s.atStep .idleWrite with ustate := .idle, usercnt := BitVec.ofNat 32 (w / 2 ^ 8) }

/-- `s` with the instruction of a table word where the next step takes its instruction: an operation is presented on the
operation port, a wire command is the next exchange of a frame action (log 10, log 11). -/
def State.withFetchWord (s : State) (nbits w : Nat) : State :=
  let v := w % 2 ^ nbits
  match tablePort nbits v with
  | .op => s.withInput (.op (tableTriple v))
  | .wire => s.withWireWord v

end Sys2Proof.Machine
end

