-- ==== Sys2Proof/Machine/Assembler.lean ====
section
/-! DEFINITION. The assembly syntax of the operation port (30_encoding.md R101) and its pseudo-instructions (R102). A line
is a list of characters. -/

namespace Sys2Proof.Machine

/-- The mnemonics of R96 with their operation words. -/
def opMnemonics : List (List Char × Byte) :=
  [("NOP".toList, 0x00), ("CSUM_INIT".toList, 0x01), ("CSUM_FOLD".toList, 0x02), ("CSUM_FINAL".toList, 0x03),
   ("KDF".toList, 0x04), ("RKEY".toList, 0x05), ("KSEED".toList, 0x06), ("KADV".toList, 0x07), ("MASK".toList, 0x08),
   ("CRYPT".toList, 0x09), ("IMGRD".toList, 0x0A), ("PAYW".toList, 0x0B), ("SEAL".toList, 0x0C), ("LPOLL".toList, 0x0D),
   ("LDROP".toList, 0x0E)]

/-- The triple of an operation word and two operands; an operand the operation does not use is written as 0 (R95). -/
def assembleTriple (opw : Byte) (a b : Word) : OpTriple :=
  ⟨opw, if (operandsUsed opw.toNat).1 then a else 0, if (operandsUsed opw.toNat).2 then b else 0⟩

/-- The operation word of a mnemonic. -/
def opwOf (name : List Char) : List (List Char × Byte) → Option Byte
  | [] => none
  | (n, w) :: rest => if n = name then some w else opwOf name rest

/-- The expansion of a pseudo-instruction (R102). Operands beyond those that R102 names for it are dropped: R101 and R102
do not say what such a line is. DESIGN CHOICE (log 24). -/
def expandPseudo (name : List Char) (a b : Word) : Option (List OpTriple) :=
  if name = "SESSION.OPEN".toList then
    some [assembleTriple 0x04 a 0, assembleTriple 0x05 b 0, assembleTriple 0x06 0 0, assembleTriple 0x01 0 0]
  else if name = "DECRYPT".toList then some [assembleTriple 0x09 a b]
  else if name = "PEEKMASK".toList then some [assembleTriple 0x08 a 0]
  else if name = "DROP".toList then some [assembleTriple 0x0E 0 0]
  else none

/-- The triples of one operation or pseudo-instruction. -/
def assembleOp (name : List Char) (a b : Word) : Option (List OpTriple) :=
  match opwOf name opMnemonics with
  | some w => some [assembleTriple w a b]
  | none => expandPseudo name a b

/-! ## Text -/

/-- The value of a digit, hexadecimal ones included. -/
def digitValue (c : Char) : Option Nat :=
  let n := c.toNat
  if 48 ≤ n ∧ n ≤ 57 then some (n - 48)
  else if 65 ≤ n ∧ n ≤ 70 then some (n - 55)
  else if 97 ≤ n ∧ n ≤ 102 then some (n - 87)
  else none

/-- The number that digits in a base write, after `acc`. -/
def digitsValue (base : Nat) : Nat → List Char → Option Nat
  | acc, [] => some acc
  | acc, c :: cs =>
    match digitValue c with
    | some d => if d < base then digitsValue base (acc * base + d) cs else none
    | none => none

/-- A literal as a number: `0x` and hexadecimal digits, or decimal digits (R101). -/
def literalValue : List Char → Option Nat
  | '0' :: 'x' :: d :: ds => digitsValue 16 0 (d :: ds)
  | d :: ds => digitsValue 10 0 (d :: ds)
  | [] => none

/-- A literal as an operand. DESIGN CHOICE (log 24): one that does not fit 32 bits is no operand. -/
def literalWord (cs : List Char) : Option Word :=
  match literalValue cs with
  | some n => if n < 2 ^ 32 then some (BitVec.ofNat 32 n) else none
  | none => none

/-- The token read so far, if there is one. -/
def flushToken (cur : List Char) (rest : List (List Char)) : List (List Char) :=
  if cur = [] then rest else cur.reverse :: rest

/-- The tokens of a line: blanks separate, a comma is a token of its own, `;` starts a comment (R101). -/
def tokens : List Char → List Char → List (List Char)
  | cur, [] => flushToken cur []
  | cur, c :: cs =>
    if c = ';' then flushToken cur []
    else if c = ' ' ∨ c = '\t' then flushToken cur (tokens [] cs)
    else if c = ',' then flushToken cur ([','] :: tokens [] cs)
    else tokens (c :: cur) cs

/-- `.word n`, an operation word written as a number, with operands 0 (program P1 of 95_test_vectors.md; log 24). -/
def assembleWord (cs : List Char) : Option (List OpTriple) :=
  match literalValue cs with
  | some n => if n < 2 ^ 8 then some [⟨BitVec.ofNat 8 n, 0, 0⟩] else none
  | none => none

/-- A line `MNEMONIC [A [, B]]`: the triples it encodes to, none for a line that is no instruction. A blank or comment
line encodes to no triple (R101, R102). -/
def assembleLine (line : List Char) : Option (List OpTriple) :=
  match tokens [] line with
  | [] => some []
  | [name] => assembleOp name 0 0
  | [name, a] =>
    if name = ".word".toList then assembleWord a
    else
      match literalWord a with
      | some va => assembleOp name va 0
      | none => none
  | [name, a, comma, b] =>
    if comma = [','] then
      match literalWord a, literalWord b with
      | some va, some vb => assembleOp name va vb
      | _, _ => none
    else none
  | _ => none

end Sys2Proof.Machine
end

