-- ==== Sys2Proof/Safety.lean ====
section
/-! DEFINITION. What claims about LINKCORE speak of: safe outcomes, the states that runs reach, the invariants of the
registers and of the sequencer, and the words an upload sends. -/

namespace Sys2Proof.Machine

/-! ## Outcomes and runs -/

/-- The outcome is a next state. -/
def completes (o : Host.Outcome State Fault Refusal) : Prop := ∃ t, o = .next t

/-- `n` steps, up to the first fault or refusal. -/
def runSteps : Nat → State → Host.Outcome State Fault Refusal
  | 0, s => .next s
  | n + 1, s =>
    match step s with
    | .next t => runSteps n t
    | .fault r => .fault r
    | .refused r => .refused r

/-- A state right after reset, with any parameters (R383) and any environment; nothing was issued yet. -/
def Started (s : State) : Prop :=
  ∃ params ports, s = State.resetWith params ports ∧ ports.requests = [] ∧ Memory.wf ports.image = true

/-- A state that some run from reset reaches. -/
inductive Reachable : State → Prop where
  | start {s : State} (h : Started s) : Reachable s
  | step {s t : State} (h : Reachable s) (e : Sys2Proof.Machine.step s = .next t) : Reachable t

/-- The inputs at which the machine takes its own next step: none, or "nothing arrives". -/
def quietInput (s : State) : Prop := s.ports.inputs = [] ∨ ∃ rest, s.ports.inputs = .quiet :: rest

/-! ## The operation port, in the spec's words -/

/-- OPBLOCKED as R97 writes it. -/
def Blocked (s : State) : Prop :=
  s.busy = true ∨ s.hsst = .awaitingBios
    ∨ s.uph ∈ [.handshake, .remoteKey, .localKey, .header, .payload, .trailer, .ack]

/-- The state after an accepted operation with result `v` that changed nothing else of `s` (R94, R96). -/
def opDone (v : Word) (s : State) : State :=
  { s with opr := v, ports := { s.ports with opAnswer := .accepted } }

/-- The state after an operation refused with an error whose bit of ERR is `bit`: ERR is written, and nothing else but
the answer (R97, R340). -/
def opRefused (e : ErrCode) (bit : Nat) (s : State) : State :=
  { s with errBits := s.errBits ||| BitVec.twoPow 10 bit, lastErr := some e,
           ports := { s.ports with opAnswer := .rejected } }

/-- Operation word `opw` is the operation `i` of its operands, whatever the operands are (R95, R96). -/
def OpcodeIs (opw : Byte) (i : Word → Word → Instr) : Prop := ∀ a b, decodeTriple ⟨opw, a, b⟩ = i a b

/-- The operation is refused with OpBusy (8, bit 7) while OPBLOCKED holds (R97, R349). -/
def RefusedWhileBlocked (i : Instr) : Prop := ∀ s, Blocked s → exec i s = .next (opRefused .opBusy 7 s)

/-- The operation is accepted with result `v s` and the state changes of `f`, unless OPBLOCKED holds. -/
def AcceptedWith (i : Instr) (v : State → Word) (f : State → State) : Prop :=
  ∀ s, ¬ Blocked s → exec i s = .next (opDone (v s) (f s))

/-! ## The image port, in the spec's words -/

/-- The interval in which R388 lets the image port change nothing, in the model's registers (log 8): the upload is in one
of its steps, or its START was sampled and the probe of that frame is next. -/
def ImageHeld (s : State) : Prop :=
  s.uph ∈ [.handshake, .remoteKey, .localKey, .header, .payload, .trailer, .ack]
    ∨ (s.seq = .probe ∧ s.ustate = .peerReady ∧ s.trig.start = true)

/-! ## The transport, in the spec's words -/

/-- The request of a wire command: the bytes sent and the number of reply bytes (R91), with the timeout XCHG_TIMEOUT
(R320), which is 5 units (R8). -/
def requestOf (p : Config.Params) : Instr → Option Request
  | .wireReset => some ⟨[0xFF#8], 3, p.xchgTimeout⟩
  | .wireStatus => some ⟨[0x00#8], 3, p.xchgTimeout⟩
  | .wireRead => some ⟨[0x14#8], 5, p.xchgTimeout⟩
  | .wireWrite v =>
    some ⟨[0x15#8, v.extractLsb' 0 8, v.extractLsb' 8 8, v.extractLsb' 16 8, v.extractLsb' 24 8], 1, p.xchgTimeout⟩
  | _ => none

/-- Scripted responses that keep the port contract for exchanges of these reply lengths, in order; where the script ends,
the responses are free. -/
def repliesFit : List Nat → List Reply → Bool
  | [], _ => true
  | _ :: _, [] => true
  | m :: ms, r :: rs => r.fits m && repliesFit ms rs

/-- The next `k` exchanges are all answered by script, and none of them times out. -/
def repliesOk : Nat → List Reply → Bool
  | 0, _ => true
  | _ + 1, [] => false
  | k + 1, .ok _ :: rs => repliesOk k rs
  | _ + 1, .timeout _ :: _ => false

/-- No timeout of the next `k` exchanges aborts an upload: ABORT_ON_TIMEOUT is clear, or none of them times out (R263). -/
def NoAbort (k : Nat) (s : State) : Prop :=
  s.params.abortOnTimeout = false ∨ repliesOk k s.ports.replies = true

/-- The reply lengths of an upload's steps 2 to 7 with `h` header words, which are 48 (R8, R253), and `n` payload words. -/
def uploadReplyLens (h n : Nat) : List Nat := 5 :: 1 :: (List.replicate (h + n) 1 ++ [1, 5])

/-- A request that is a Write. -/
def isWrite (r : Request) : Bool := r.tx.head? == some 0x15#8

/-- A request that is a Read. -/
def isRead (r : Request) : Bool := r.tx == [0x14#8]

/-! ## Invariants -/

/-- What the invariants need of the parameters, and R8's values have: a definite probe seeds a count, and the header is
some whole words and not longer than the least window. -/
def ParamsOk (p : Config.Params) : Prop :=
  p.debounceSeed ≠ 0#8 ∧ aligned4 p.headerLen = true ∧ p.headerLen ≠ 0#32 ∧ p.headerLen ≤ p.minWindow

/-- The link monitor: DCNT is 0 exactly in NoPeer (R30), and never exceeds DEBOUNCE_SEED, which is 60 (R8, R221). -/
def LinkOk (s : State) : Prop := (s.dcnt = 0#8 ↔ s.lstat = .noPeer) ∧ s.dcnt ≤ s.params.debounceSeed

/-- A frame action is in progress exactly while ATFB is 0 and BUSY is 1 (R31, R41), and nothing is in flight between two
steps (R41, R385). -/
def FrameOk (s : State) : Prop :=
  (s.atfb = true ↔ s.seq = .none) ∧ s.busy = !s.atfb ∧ s.xpend = false

/-- LASTERR is none exactly if no error bit is set, and the last error's bit is set (R32, R340). -/
def ErrOk (s : State) : Prop :=
  (s.lastErr = none ↔ s.errBits = 0#10) ∧ ∀ e, s.lastErr = some e → s.errBits &&& e.mask = e.mask

/-- RXLEN is a reply length, or 0 before the first exchange (R37). -/
def RxOk (s : State) : Prop := s.rxlen = 0#3 ∨ s.rxlen = 1#3 ∨ s.rxlen = 3#3 ∨ s.rxlen = 5#3

/-- Every request issued is one of the four commands with its own reply length (R326). -/
def RequestsOk (s : State) : Prop := ∀ r ∈ s.ports.requests, r.wellFormed = true

/-- The image is in canonical form. -/
def ImageOk (s : State) : Prop := Memory.wf s.ports.image = true

/-- The upload phase in which a step of the sequencer is next (R253); none for a step of no upload. -/
def phaseOf : SeqStep → Option UploadPhase
  | .none => none
  | .probe => none
  | .hsReset => none
  | .hsStatus => none
  | .remoteKey => some .remoteKey
  | .localKey => some .localKey
  | .header => some .header
  | .payload => some .payload
  | .trailer => some .trailer
  | .ack => some .ack
  | .idleRead => none
  | .idleWrite => none

/-- The phases of an upload's steps 2 to 7. -/
def transferPhase (p : UploadPhase) : Bool :=
  p == .remoteKey || p == .localKey || p == .header || p == .payload || p == .trailer || p == .ack

/-- The sequencer's step and the status fields fit together (R31, R39, R200, R254, R264, R290). -/
def SequencerOk (s : State) : Prop :=
  (∀ p, phaseOf s.seq = some p → s.uph = p)
  ∧ (transferPhase s.uph = true → phaseOf s.seq = some s.uph)
  ∧ (uploadActive s = true → s.ustate = .peerReady)
  ∧ (s.uph = .handshake → s.hsst = .awaitingBios)
  ∧ (s.hsst = .awaitingBios → s.ustate = .peerReady → s.uph = .handshake)
  ∧ (s.ustate ≠ .waitingForPeer → s.uph ≠ .handshake → s.hsst = .ready)
  ∧ (s.hsp = true ↔ s.seq = .hsStatus)
  ∧ (s.seq = .hsReset ∨ s.seq = .hsStatus → s.hsst = .awaitingBios)
  ∧ (s.seq = .idleRead ∨ s.seq = .idleWrite → s.ustate = .idle)
  ∧ (s.seq ≠ .none → s.seq ≠ .probe → s.lstat = .connected)

/-- CURSOR and WINDOW (R26, R27, R251, R258, R259): the window is a multiple of 8 and, from the validation of an upload
on, at least MIN_WINDOW; the cursor is aligned and stays inside the part of the window that its phase sends (log 20). -/
def CursorOk (s : State) : Prop :=
  s.window &&& 7#32 = 0#32
  ∧ (uploadActive s = true → s.params.minWindow ≤ s.window ∧ s.window = windowOf s.imgLen ∧ aligned4 s.imgLen = true)
  ∧ (s.uph = .header → aligned4 s.cursor = true ∧ s.cursor < s.params.headerLen)
  ∧ (s.uph = .payload → aligned4 s.cursor = true ∧ s.params.headerLen ≤ s.cursor ∧ s.cursor < s.window)
  ∧ (s.uph = .trailer ∨ s.uph = .ack ∨ s.uph = .done → s.cursor = s.window)

/-- Everything together: what holds in every state that is reached with parameters that are ParamsOk. -/
def MachineInv (s : State) : Prop :=
  ParamsOk s.params ∧ LinkOk s ∧ FrameOk s ∧ ErrOk s ∧ RxOk s ∧ RequestsOk s ∧ ImageOk s ∧ SequencerOk s ∧ CursorOk s

/-! ## What an upload sends -/

/-- The key after `n` advances (R182). -/
def advTimes (p : Config.Params) : Nat → Word → Word
  | 0, k => k
  | n + 1, k => advTimes p n (adv p k)

/-- The `n` image words from offset `o` on (R62). -/
def imageWords (s : State) : Nat → Word → List Word
  | 0, _ => []
  | n + 1, o => imageWord s o :: imageWords s n (o + 4#32)

/-- The requests of `n` payload words from offset `o` on, under the key `k` before the first of them, in the order they
are sent (R259). -/
def payloadRequests (s : State) : Nat → Word → Word → List Request
  | 0, _, _ => []
  | n + 1, k, o =>
    ⟨writeFrame (imageWord s o ^^^ cipherMask s.params (adv s.params k) o), 1, s.params.xchgTimeout⟩
      :: payloadRequests s n (adv s.params k) (o + 4#32)

/-- What the peer reads from a Write frame under the key and the offset it was sent with: the mask of R183 taken off
again (R184, R268). None for a frame that is no Write. -/
def peerReads (p : Config.Params) (k o : Word) (r : Request) : Option Word :=
  match r.tx with
  | [0x15#8, b0, b1, b2, b3] =>
    some (le32 b0 b1 b2 b3 ^^^ (k ^^^ (~~~(o + p.maskOfsBias) + 1#32) ^^^ p.maskConst))
  | _ => none

/-- The words that a peer recovers from frames in the order they were sent, if its key is `k` before the first, it
advances it as R181 says before each, and the first stands at offset `o` (R268). -/
def peerWords (p : Config.Params) : Word → Word → List Request → List (Option Word)
  | _, _, [] => []
  | k, o, r :: rs =>
    peerReads p (k * p.lcgMul + p.lcgInc) o r :: peerWords p (k * p.lcgMul + p.lcgInc) (o + 4#32) rs

end Sys2Proof.Machine
end

