-- ==== Sys2Proof/Certificates/Slice0/Obligations.lean ====
section
/-! DEFINITION. The statements for the provers. The words they use for the spec's notions (Blocked, opDone, opRefused,
requestOf, the invariants) stand in Sys2Proof/Safety.lean. Where a rule writes a literal that is a parameter of R8, a
statement reads the parameter and says which value `Config.defaults` gives it: the source's, which is the rule's literal
(93 item 1; log 4). -/

open Sys2Proof Sys2Proof.Machine

/-! ## Encoding -/

/-- R96, R98, R91: decoding the encoding of any instruction gives it back; every operand at every value. -/
def Obligations.DecodeOfEncodeIsTheInstruction : Prop :=
  ∀ i : Instr, decode i.port (encode i) = .ok i

/-- R101: a triple that an assembler writes is the encoding of what it decodes to. -/
def Obligations.EncodeOfDecodeIsTheTriple : Prop :=
  ∀ t : OpTriple, t.wellFormed = true → (decodeTriple t).encoding = .triple t ∧ (decodeTriple t).port = .op

/-- R91, R99: a frame that decodes to a wire command is that command's encoding, and no other frame decodes. -/
def Obligations.DecodedFramesAreTheFourCommands : Prop :=
  ∀ (bs : List Byte) (i : Instr),
    decode .wire bs = .ok i ↔ encode i = bs ∧ (i = .wireReset ∨ i = .wireStatus ∨ i = .wireRead ∨ ∃ v, i = .wireWrite v)

/-- R96, R98, R91: a few words written out from the encoding, with OPA and OPB least significant byte first (log 9). The
first five triples and the Write are those of 95_test_vectors.md 2.10, the triple 0x1F is that of program P1 (section 3,
R98), and the frame 14 is the Read of section 1.3 (R91). -/
def Obligations.WrittenOutWordsDecode : Prop :=
  decode .op [0x02, 0x01, 0x00, 0x00, 0x00, 0x00, 0x00, 0x00, 0x00] = .ok (.csumFold 0x1)
  ∧ decode .op [0x05, 0x11, 0x22, 0x33, 0x44, 0x00, 0x00, 0x00, 0x00] = .ok (.rkey 0x44332211)
  ∧ decode .op [0x09, 0xC0, 0x00, 0x00, 0x00, 0x17, 0x57, 0x68, 0x0B] = .ok (.crypt 0xC0 0x0B685717)
  ∧ decode .op [0x0C, 0xFC, 0x01, 0x00, 0x00, 0x00, 0x02, 0x00, 0x00] = .ok (.sealCsum 0x1FC 0x200)
  ∧ decode .op [0x0D, 0x00, 0x00, 0x04, 0x00, 0x00, 0x00, 0x00, 0x00] = .ok (.lpoll 0x00040000)
  ∧ decode .op [0x1F, 0x00, 0x00, 0x00, 0x00, 0x00, 0x00, 0x00, 0x00] = .ok (.reservedMbz1 0xF)
  ∧ decode .wire [0x15, 0x78, 0x56, 0x34, 0x12] = .ok (.wireWrite 0x12345678)
  ∧ decode .wire [0x14] = .ok .wireRead

/-- R102: the pseudo-instructions and their expansions, at every operand. That an operand which an expansion does not use
is dropped (PEEKMASK's second, both of DROP) is the model's choice: R101 and R102 are silent on it (log 24). -/
def Obligations.PseudoInstructionsExpand : Prop :=
  ∀ a b : Word,
    (assembleOp "SESSION.OPEN".toList a b).map (·.map decodeTriple) = some [.kdf a, .rkey b, .kseed, .csumInit]
    ∧ (assembleOp "DECRYPT".toList a b).map (·.map decodeTriple) = some [.crypt a b]
    ∧ (assembleOp "PEEKMASK".toList a b).map (·.map decodeTriple) = some [.mask a 0]
    ∧ (assembleOp "DROP".toList a b).map (·.map decodeTriple) = some [.ldrop]

/-! ## The operation port -/

/-- R98: each reserved row completes, in every state, by raising ReservedOp and changing nothing else. -/
def Obligations.EveryReservedRowRaisesReservedOp : Prop :=
  ∀ (opc : BitVec 4) (s : State), ∀ i ∈ ([.reservedOpcF, .reservedMbz1 opc, .reservedMbz2 opc, .reservedMbz3 opc,
      .reservedMbz4 opc, .reservedMbz5 opc, .reservedMbz6 opc, .reservedMbz7 opc, .reservedMbz8 opc, .reservedMbz9 opc,
      .reservedMbzA opc, .reservedMbzB opc, .reservedMbzC opc, .reservedMbzD opc, .reservedMbzE opc,
      .reservedMbzF opc] : List Instr),
    exec i s = .next (opRefused .reservedOp 6 s)

/-- R96: NOP is accepted in every state and changes nothing but the answer line; OPR is not written. -/
def Obligations.NopIsAlwaysAccepted : Prop :=
  OpcodeIs 0x00 (fun _ _ => .nop)
  ∧ ∀ s : State, exec .nop s = .next { s with ports := { s.ports with opAnswer := .accepted } }

/-- R97: the order of the checks, for every word and every state: reserved, NOP, OPBLOCKED, then the operation's own
check or its effect; a refused operation writes ERR and nothing else. -/
def Obligations.OperationCheckOrder : Prop :=
  ∀ (t : OpTriple) (s : State),
    if t.opw >>> 4 ≠ 0#8 ∨ t.opw &&& 0x0F#8 = 0x0F#8 then exec (decodeTriple t) s = .next (opRefused .reservedOp 6 s)
    else if t.opw = 0x00#8 then
      exec (decodeTriple t) s = .next { s with ports := { s.ports with opAnswer := .accepted } }
    else (Blocked s → exec (decodeTriple t) s = .next (opRefused .opBusy 7 s))
      ∧ (¬ Blocked s → ∃ u, exec (decodeTriple t) s = .next u
          ∧ ((u.ports.opAnswer = .accepted ∧ u.errBits = s.errBits ∧ u.lastErr = s.lastErr)
            ∨ (t.opw = 0x04#8 ∧ u = opRefused .windowTooSmall 4 s)
            ∨ ((t.opw = 0x0A#8 ∨ t.opw = 0x0B#8) ∧ u = opRefused .misalignedOffset 8 s)))

/-- R96's column "writes", R389: whatever the word, the operands and the state, an operation completes; it writes no
register but CSUM, LOCALKEY, REMOTEKEY, KEY, OPR, LINK and ERR, so neither the sequencer, nor the upload's registers, nor
the image, nor the wire; and each of CSUM, LOCALKEY, REMOTEKEY, KEY, LINK only under the codes that R96 lists for it. -/
def Obligations.OperationsWriteOnlyTheirRegisters : Prop :=
  ∀ (t : OpTriple) (s : State), ∃ u, exec (decodeTriple t) s = .next u
    ∧ u = { s with csum := u.csum, localKey := u.localKey, remoteKey := u.remoteKey, key := u.key, opr := u.opr,
                   lstat := u.lstat, dcnt := u.dcnt, errBits := u.errBits, lastErr := u.lastErr,
                   ports := { s.ports with opAnswer := u.ports.opAnswer } }
    ∧ (u.csum ≠ s.csum → t.opw ∈ [0x01#8, 0x02#8, 0x03#8, 0x0B#8, 0x0C#8])
    ∧ (u.localKey ≠ s.localKey → t.opw = 0x04#8)
    ∧ (u.remoteKey ≠ s.remoteKey → t.opw = 0x05#8)
    ∧ (u.key ≠ s.key → t.opw ∈ [0x06#8, 0x07#8, 0x09#8, 0x0B#8, 0x0C#8])
    ∧ (u.lstat ≠ s.lstat ∨ u.dcnt ≠ s.dcnt → t.opw = 0x0D#8 ∨ t.opw = 0x0E#8)

/-! ## Checksum -/

/-- R131: `fold` takes the bits of the word least significant first, one per iteration; CSUM_POLY is 0x0000A1C1. -/
def Obligations.FoldTakesTheWordBitsInOrder : Prop :=
  Config.defaults.csumPoly = 0x0000A1C1
  ∧ ∀ (p : Config.Params) (c w : Word), fold p c w =
    (List.range 32).foldl
      (fun (c : Word) (i : Nat) => if c.getLsbD 0 != w.getLsbD i then (c >>> 1) ^^^ p.csumPoly else c >>> 1) c

/-- R133: with the source's CSUM_POLY a folded checksum is below 0x10000, and every bit of the old checksum influences
it. -/
def Obligations.FoldedChecksumFitsSixteenBits : Prop :=
  Config.defaults.csumPoly = 0xA1C1
  ∧ ∀ p : Config.Params, p.csumPoly = 0xA1C1 →
    (∀ c w : Word, fold p c w < 0x10000#32)
    ∧ ∀ (c w : Word) (i : Nat), i < 32 → fold p (c ^^^ BitVec.twoPow 32 i) w ≠ fold p c w

/-- R137, whole: encoding, effect (CSUM_SEED is 0x000015A0), OpBusy, idempotence; the example is an instance of the
effect. -/
def Obligations.CsumInitLoadsTheSeed : Prop :=
  Config.defaults.csumSeed = 0x000015A0
  ∧ OpcodeIs 0x01 (fun _ _ => .csumInit)
  ∧ AcceptedWith .csumInit (fun s => s.params.csumSeed) (fun s => { s with csum := s.params.csumSeed })
  ∧ RefusedWhileBlocked .csumInit
  ∧ ∀ s t, ¬ Blocked s → exec .csumInit s = .next t → exec .csumInit t = .next t

/-- R138, whole: encoding, effect, OpBusy, the corner cases and the example. -/
def Obligations.CsumFoldFoldsTheWord : Prop :=
  let d := Config.defaults
  OpcodeIs 0x02 (fun a _ => .csumFold a)
  ∧ (∀ w, AcceptedWith (.csumFold w) (fun s => fold s.params s.csum w)
      (fun s => { s with csum := fold s.params s.csum w }))
  ∧ (∀ w, RefusedWhileBlocked (.csumFold w))
  ∧ fold d 0 0 = 0 ∧ fold d 0x15A0 0 = 0x8613 ∧ fold d 0x15A0 0x1 = 0x493B
  ∧ (∀ c w : Word, fold d c w < 0x10000)
  ∧ fold d 0xFFFFFFFF 0 = 0x8466 ∧ fold d 0x0000FFFF 0 = 0x9BE0
  ∧ fold d (fold d 0x15A0 1) 2 = 0x743F ∧ fold d (fold d 0x15A0 2) 1 = 0x20D4

/-- R139, whole: encoding, effect, OpBusy, the corner cases and the example. -/
def Obligations.CsumFinalOrsTheLength : Prop :=
  OpcodeIs 0x03 (fun a _ => .csumFinal a)
  ∧ (∀ len, AcceptedWith (.csumFinal len) (fun s => s.csum ||| (len <<< 16))
      (fun s => { s with csum := s.csum ||| (len <<< 16) }))
  ∧ (∀ len, RefusedWhileBlocked (.csumFinal len))
  ∧ (∀ (len : Word) (s : State), exec (.csumFinal len) s = exec (.csumFinal (len &&& 0xFFFF)) s)
  ∧ (∀ (len len' : Word) (s t u : State), ¬ Blocked s → exec (.csumFinal len) s = .next t →
      exec (.csumFinal len') t = .next u → u.csum = s.csum ||| (len <<< 16) ||| (len' <<< 16))
  ∧ (∀ s t : State, exec (.csumFinal 0) s = .next t → t.csum = s.csum)
  ∧ (0x743F : Word) ||| (0x200 <<< 16) = 0x0200743F

/-! ## Key exchange -/

/-- R156, whole: encoding, WindowTooSmall, the formula written out, OpBusy, and, with the source's literals, the corner
cases and the example. -/
def Obligations.KdfDerivesTheLocalKey : Prop :=
  let key := fun (p : Config.Params) (w : Word) =>
    let n := (w - p.minWindow) >>> 3
    let i := ((n &&& 0x3F80) <<< 1) ||| ((n &&& 0x4000) <<< 2) ||| (n &&& 0x7F) ||| p.kdfTag
    let sum := (i >>> 8) + (i >>> 16) + (if p.kdfSumSelf then i else 0)
    let v := (sum <<< 24) ||| i ||| p.kdfOrMask
    bswap32 v ^^^ (if v.getLsbD 9 = false then p.kdfC0 else p.kdfC1)
  let source := fun (sumSelf : Bool) => { Config.defaults with kdfSumSelf := sumSelf }
  Config.defaults.minWindow = 0x200 ∧ Config.defaults.kdfTag = 0x380000 ∧ Config.defaults.kdfOrMask = 0x80808080
  ∧ Config.defaults.kdfC0 = 0x4B617761 ∧ Config.defaults.kdfC1 = 0x7365646F
  ∧ OpcodeIs 0x04 (fun a _ => .kdf a)
  ∧ (∀ (w : Word) (s : State), ¬ Blocked s → w < s.params.minWindow →
      exec (.kdf w) s = .next (opRefused .windowTooSmall 4 s))
  ∧ (∀ (w : Word) (s : State), ¬ Blocked s → s.params.minWindow ≤ w →
      exec (.kdf w) s = .next (opDone (key s.params w) { s with localKey := key s.params w }))
  ∧ (∀ w, RefusedWhileBlocked (.kdf w))
  ∧ (∀ (b : Bool) (w : Word), 0x200 ≤ w → key (source b) w = key (source b) (w &&& ~~~7))
  ∧ (∀ b : Bool, key (source b) 0x40200 = key (source b) 0x200 ∧ key (source b) 0x200 = 0xCBE1CFD9)

/-- R155: the worked example with its trace, and the key's dependence on `n[14:0]` alone. -/
def Obligations.LocalKeyExampleAndAliases : Prop :=
  let d := Config.defaults
  kdfIndex d 0x200 = 0 ∧ kdfSpread d 0 = 0x00380000 ∧ kdfSum d 0x00380000 = 0x3838
  ∧ kdfMix d 0x00380000 = 0xB8B88080 ∧ (0xB8B88080 : Word).getLsbD 9 = false
  ∧ bswap32 0xB8B88080 = 0x8080B8B8 ∧ kdfKey d 0xB8B88080 = 0xCBE1CFD9 ∧ deriveLocalKey d 0x200 = 0xCBE1CFD9
  ∧ (∀ (p : Config.Params) (v w : Word), kdfIndex p v &&& 0x7FFF = kdfIndex p w &&& 0x7FFF →
      deriveLocalKey p v = deriveLocalKey p w)
  ∧ ∀ (p : Config.Params) (w : Word), p.minWindow ≤ w → w ≤ w + 0x40000 →
      deriveLocalKey p (w + 0x40000) = deriveLocalKey p w

/-- R157, R158, whole: the double byte swap with the XOR between is one XOR, bytewise 73 65 64 6F in arrival order;
RKEY's encoding, effect, OpBusy, corner cases and example (with the default REMOTE_KEY_XOR). -/
def Obligations.RkeyDecodesTheReceivedWord : Prop :=
  (∀ rw : Word, bswap32 (bswap32 rw ^^^ 0x7365646F) = rw ^^^ 0x6F646573)
  ∧ (∀ b0 b1 b2 b3 : Byte, le32 b0 b1 b2 b3 ^^^ 0x6F646573 = le32 (b0 ^^^ 0x73) (b1 ^^^ 0x65) (b2 ^^^ 0x64) (b3 ^^^ 0x6F))
  ∧ Config.defaults.remoteKeyXor = 0x6F646573
  ∧ OpcodeIs 0x05 (fun a _ => .rkey a)
  ∧ (∀ rw, AcceptedWith (.rkey rw) (fun s => rw ^^^ s.params.remoteKeyXor)
      (fun s => { s with remoteKey := rw ^^^ s.params.remoteKeyXor }))
  ∧ (∀ rw, RefusedWhileBlocked (.rkey rw))
  ∧ (0 : Word) ^^^ 0x6F646573 = 0x6F646573 ∧ (0x6F646573 : Word) ^^^ 0x6F646573 = 0
  ∧ le32 0x73 0x65 0x64 0x6F = 0x6F646573 ∧ le32 0x11 0x22 0x33 0x44 = 0x44332211
  ∧ (0x44332211 : Word) ^^^ 0x6F646573 = 0x2B574762

/-- R161, whole: encoding, effect, OpBusy, the corner cases and the example (with the default SEED_FN). -/
def Obligations.KseedSeedsTheCipher : Prop :=
  OpcodeIs 0x06 (fun _ _ => .kseed)
  ∧ AcceptedWith .kseed (fun s => seedKey s.params s.localKey s.remoteKey)
      (fun s => { s with key := seedKey s.params s.localKey s.remoteKey })
  ∧ RefusedWhileBlocked .kseed
  ∧ (∀ (p : Config.Params) (l r : Word), p.seedFn = .remote → seedKey p l r = r)
  ∧ Config.defaults.seedFn = .remote
  ∧ (∃ t, exec .kseed State.reset = .next t ∧ t.key = 0)
  ∧ (∀ (s t u : State) (k : Word), ¬ Blocked s → exec .kseed s = .next t → exec .kseed { t with key := k } = .next u →
      u = t)

/-! ## Stream cipher -/

/-- R183: the mask, its offset term, its two literals, and two of its values. -/
def Obligations.MaskFormula : Prop :=
  let d := Config.defaults
  (∀ (p : Config.Params) (k o : Word), cipherMask p k o = k ^^^ (~~~(o + p.maskOfsBias) + 1) ^^^ p.maskConst)
  ∧ d.maskOfsBias = 0x02000000 ∧ (0x20 : Word) <<< 20 = 0x02000000 ∧ d.maskConst = 0x20796220
  ∧ (∀ (p : Config.Params) (k k' o : Word), cipherMask p k o ^^^ k = cipherMask p k' o ^^^ k')
  ∧ cipherMask d 0 0xC0 = 0xDD869D60 ∧ cipherMask d 0 0x200 = 0xDD869C20

/-- R186, whole: encoding, effect (LCG_MUL is 0x6177614B, LCG_INC is 1), OpBusy, the corner cases and the example. -/
def Obligations.KadvAdvancesTheKey : Prop :=
  let d := Config.defaults
  d.lcgMul = 0x6177614B ∧ d.lcgInc = 1
  ∧ OpcodeIs 0x07 (fun _ _ => .kadv)
  ∧ AcceptedWith .kadv (fun s => s.key * s.params.lcgMul + s.params.lcgInc)
      (fun s => { s with key := s.key * s.params.lcgMul + s.params.lcgInc })
  ∧ RefusedWhileBlocked .kadv
  ∧ adv d 0 = 1 ∧ adv d 1 = 0x6177614C ∧ adv d 0xFFFFFFFF = 0x9E889EB6 ∧ adv d 0x80000000 = 0x80000001
  ∧ adv d 0x12345678 = 0xD3E0CD29

/-- R187, whole: encoding, effect (KEY unchanged), OpBusy, the corner cases and the example. -/
def Obligations.MaskAppliesTheCurrentMask : Prop :=
  let d := Config.defaults
  OpcodeIs 0x08 (fun a b => .mask a b)
  ∧ (∀ o w, AcceptedWith (.mask o w) (fun s => w ^^^ cipherMask s.params s.key o) id)
  ∧ (∀ o w, RefusedWhileBlocked (.mask o w))
  ∧ (∀ k : Word, cipherMask d k 0xFE000000 = k ^^^ 0x20796220)
  ∧ (∀ (p : Config.Params) (k o : Word), 0 ^^^ cipherMask p k o = cipherMask p k o)
  ∧ cipherMask d 0x152C0BB7 0xC0 = 0xC8AA96D7

/-- R188, whole: encoding, effect (advance, then mask with the new key), OpBusy, the corner cases and the example. -/
def Obligations.CryptAdvancesThenMasks : Prop :=
  let d := Config.defaults
  OpcodeIs 0x09 (fun a b => .crypt a b)
  ∧ (∀ o w, AcceptedWith (.crypt o w) (fun s => w ^^^ cipherMask s.params (adv s.params s.key) o)
      (fun s => { s with key := adv s.params s.key }))
  ∧ (∀ o w, RefusedWhileBlocked (.crypt o w))
  ∧ adv d 0 = 1 ∧ 0 ^^^ cipherMask d 1 0xC0 = 0xDD869D61
  ∧ adv d 0xFFFFFFFF = 0x9E889EB6 ∧ 0xFFFFFFFF ^^^ cipherMask d 0x9E889EB6 0x200 = 0xBCF1FD69
  ∧ adv d 0x2B574762 = 0x152C0BB7 ∧ 0xC3C2C1C0 ^^^ cipherMask d 0x152C0BB7 0xC0 = 0x0B685717
  ∧ (∀ (o w : Word) (s t u : State), ¬ Blocked s → exec (.crypt o w) s = .next t →
      exec (.crypt o t.opr) { t with key := s.key } = .next u → u.opr = w)

/-! ## Image and the uploader's operations -/

/-- R61: a byte of the image below the length, zero at or beyond it, without wrap-around; a word is four of them,
little-endian (R62, R63). -/
def Obligations.ImageReadsPadWithZero : Prop :=
  ∀ (s : State) (o : Word) (k : Nat), k < 4 →
    (imageWord s o).extractLsb' (8 * k) 8
        = (if o.toNat + k < s.ports.imgLen.toNat then Memory.read s.ports.image (o.toNat + k) else 0x00)
    ∧ imageByte s (o.toNat + k)
        = (if o.toNat + k < s.ports.imgLen.toNat then Memory.read s.ports.image (o.toNat + k) else 0x00)

/-- R265, whole: encoding, MisalignedOffset, effect, OpBusy, the corner cases and the example. -/
def Obligations.ImgrdReadsOneWord : Prop :=
  OpcodeIs 0x0A (fun a _ => .imgrd a)
  ∧ (∀ (o : Word) (s : State), ¬ Blocked s → o &&& 3 ≠ 0 → exec (.imgrd o) s = .next (opRefused .misalignedOffset 8 s))
  ∧ (∀ (o : Word) (s : State), ¬ Blocked s → o &&& 3 = 0 → exec (.imgrd o) s = .next (opDone (imageWord s o) s))
  ∧ (∀ o, RefusedWhileBlocked (.imgrd o))
  ∧ (∀ (o : Word) (s : State), s.ports.imgLen ≤ o → imageWord s o = 0)
  ∧ (∀ (o : Word) (s : State) (k : Nat), k < 4 → s.ports.imgLen.toNat ≤ o.toNat + k →
      (imageWord s o).extractLsb' (8 * k) 8 = 0x00)
  ∧ (∀ s : State, s.ports.imgLen = 0x1FC → Memory.read s.ports.image 0x1F8 = 0xF8 →
      Memory.read s.ports.image 0x1F9 = 0xF9 → Memory.read s.ports.image 0x1FA = 0xFA →
      Memory.read s.ports.image 0x1FB = 0xFB → imageWord s 0x1F8 = 0xFBFAF9F8 ∧ imageWord s 0x1FC = 0)

/-- R266, whole: encoding, MisalignedOffset, effect, OpBusy, the corner cases and the example. -/
def Obligations.PaywFoldsAdvancesAndMasks : Prop :=
  let d := Config.defaults
  OpcodeIs 0x0B (fun a _ => .payw a)
  ∧ (∀ (o : Word) (s : State), ¬ Blocked s → o &&& 3 ≠ 0 → exec (.payw o) s = .next (opRefused .misalignedOffset 8 s))
  ∧ (∀ (o : Word) (s : State), ¬ Blocked s → o &&& 3 = 0 →
      exec (.payw o) s = .next (opDone (imageWord s o ^^^ cipherMask s.params (adv s.params s.key) o)
        { s with csum := fold s.params s.csum (imageWord s o), key := adv s.params s.key }))
  ∧ (∀ o, RefusedWhileBlocked (.payw o))
  ∧ (∀ (o : Word) (s : State), s.ports.imgLen ≤ o → imageWord s o = 0)
  ∧ fold d 0x15A0 0xC3C2C1C0 = 0x6299 ∧ adv d 0x2B574762 = 0x152C0BB7
  ∧ 0xC3C2C1C0 ^^^ cipherMask d 0x152C0BB7 0xC0 = 0x0B685717

/-- R267, whole: encoding, effect, OpBusy, the corner cases and the example. -/
def Obligations.SealFinalizesAndMasks : Prop :=
  let d := Config.defaults
  OpcodeIs 0x0C (fun a b => .sealCsum a b)
  ∧ (∀ len o, AcceptedWith (.sealCsum len o)
      (fun s => (s.csum ||| (len <<< 16)) ^^^ cipherMask s.params (adv s.params s.key) o)
      (fun s => { s with csum := s.csum ||| (len <<< 16), key := adv s.params s.key }))
  ∧ (∀ len o, RefusedWhileBlocked (.sealCsum len o))
  ∧ (∀ (len len' o o' : Word) (s t u : State), ¬ Blocked s → exec (.sealCsum len o) s = .next t →
      exec (.sealCsum len' o') t = .next u → u.csum = s.csum ||| (len <<< 16) ||| (len' <<< 16))
  ∧ (0xD2 : Word) ||| (0x1FC <<< 16) = 0x01FC00D2 ∧ adv d 0xAD68C59E = 0x3B04C34B
  ∧ 0x01FC00D2 ^^^ cipherMask d 0x3B04C34B 0x200 = 0xE77E5FB9

/-! ## Link monitor -/

/-- R228, with R222 to R226 written out: the next state of LPOLL for each class of probe word and each count; no probe is
issued; OPR is LINK as it then stands. The expected type is 0x000400, the spurious one 0x080000, the seed 60. -/
def Obligations.LpollAppliesTheProbeWord : Prop :=
  Config.defaults.peerTypeOk = 0x00040000 ∧ Config.defaults.peerTypeSpurious = 0x08000000
  ∧ Config.defaults.debounceSeed = 60
  ∧ OpcodeIs 0x0D (fun a _ => .lpoll a)
  ∧ (∀ p, RefusedWhileBlocked (.lpoll p))
  ∧ ∀ (p : Word) (s : State), ¬ Blocked s →
      let after := fun (l : LinkStatus) (d : Byte) =>
        let t := { s with lstat := l, dcnt := d }
        exec (.lpoll p) s = .next (opDone (readBack t 8) t)
      if p.extractLsb' 0 8 ≠ 0x00#8 then
        (1#8 < s.dcnt → after s.lstat (s.dcnt - 1)) ∧ (s.dcnt ≤ 1#8 → after .noPeer 0)
      else if p &&& 0xFFFFFF00 = s.params.peerTypeOk then after .connected s.params.debounceSeed
      else if p &&& 0xFFFFFF00 = s.params.peerTypeSpurious then after s.lstat s.dcnt
      else after .wrongPeerType s.params.debounceSeed

/-- R229: encoding, effect, OpBusy, idempotence; after it a Connected-type probe restores Connected with DCNT =
DEBOUNCE_SEED, which is 60. -/
def Obligations.LdropForcesTheLinkDown : Prop :=
  Config.defaults.debounceSeed = 60
  ∧ OpcodeIs 0x0E (fun _ _ => .ldrop)
  ∧ AcceptedWith .ldrop (fun _ => 0x00000000) (fun s => { s with dcnt := 0, lstat := .noPeer })
  ∧ RefusedWhileBlocked .ldrop
  ∧ (∀ s t, ¬ Blocked s → exec .ldrop s = .next t → exec .ldrop t = .next t)
  ∧ (∀ (s t : State) (p : Word), ¬ Blocked s → exec .ldrop s = .next t → classify s.params p = .connectedType →
      (linkUpdate p t).lstat = .connected ∧ (linkUpdate p t).dcnt = s.params.debounceSeed)
  ∧ classify Config.defaults 0x00040000 = .connectedType

/-- R230: after a Connected-type probe, up to 59 consecutive inconclusive probes leave Connected, the 60th does not; the
same after an other-type probe with WrongPeerType. The count is DEBOUNCE_SEED, which is 60. -/
def Obligations.SixtyInconclusiveProbesDropTheLink : Prop :=
  Config.defaults.debounceSeed.toNat = 60
  ∧ ∀ (s : State) (p : Word) (l : LinkStatus) (qs : List Word),
    (classify s.params p = .connectedType ∧ l = .connected ∨ classify s.params p = .otherType ∧ l = .wrongPeerType) →
    (∀ q ∈ qs, classify s.params q = .inconclusive) → s.params.debounceSeed ≠ 0 →
    let n := s.params.debounceSeed.toNat
    let t := qs.foldl (fun u q => linkUpdate q u) (linkUpdate p s)
    (qs.length ≤ n - 1 → t.lstat = l ∧ t.dcnt.toNat = n - qs.length)
    ∧ (qs.length = n → t.lstat = .noPeer ∧ t.dcnt = 0)

/-! ## Errors, read-back, reset -/

/-- R340: `raise E` sets the sticky bit, writes LASTERR, and changes nothing else; seen also through the read-back. -/
def Obligations.RaiseRecordsAndNothingElse : Prop :=
  ∀ (e : ErrCode) (s : State),
    raise e s = { s with errBits := s.errBits ||| BitVec.twoPow 10 (e.code - 1), lastErr := some e }
    ∧ readBack (raise e s) 10
        = (readBack s 10 &&& 0x3FF#32) ||| BitVec.twoPow 32 (e.code - 1) ||| (BitVec.ofNat 32 e.code <<< 16)

/-- R357, R32: an error bit, once set, stays set over every step but a RESET. -/
def Obligations.ErrorBitsAreSticky : Prop :=
  ∀ s t : State, step s = .next t → (∀ rest, s.ports.inputs ≠ .reset :: rest) → s.errBits &&& t.errBits = s.errBits

/-- R21, R31, R32, R37, R103, R341: the registers of the index map; where each field stands in the words of the status
registers and with which code, reserved bits 0; indices 17 to 31 read as 0. -/
def Obligations.ReadBackLayout : Prop :=
  ∀ s : State,
    let sstat := readBack s 9
    let err := readBack s 10
    let rxx := readBack s 16
    sstat.extractLsb' 0 2 = (match s.ustate with | .waitingForPeer => 0#2 | .peerReady => 1#2 | .idle => 2#2)
    ∧ sstat.extractLsb' 2 2 = (match s.hsst with | .inactive => 0#2 | .awaitingBios => 1#2 | .ready => 2#2)
    ∧ sstat.getLsbD 4 = s.hsp ∧ sstat.extractLsb' 5 3 = 0#3
    ∧ sstat.extractLsb' 8 4 = (match s.uph with
        | .none => 0#4 | .handshake => 1#4 | .remoteKey => 2#4 | .localKey => 3#4 | .header => 4#4 | .payload => 5#4
        | .trailer => 6#4 | .ack => 7#4 | .done => 8#4 | .failed => 9#4)
    ∧ sstat.extractLsb' 12 4 = 0#4
    ∧ sstat.getLsbD 16 = s.busy ∧ sstat.getLsbD 17 = s.hasData ∧ sstat.extractLsb' 18 14 = 0#14
    ∧ err.extractLsb' 0 10 = s.errBits ∧ err.extractLsb' 10 6 = 0#6
    ∧ err.extractLsb' 16 8 = (match s.lastErr with
        | none => 0#8 | some .exchangeTimeout => 1#8 | some .peerAbsent => 2#8 | some .peerWrongType => 3#8
        | some .malformedImage => 4#8 | some .windowTooSmall => 5#8 | some .imageTooLarge => 6#8 | some .reservedOp => 7#8
        | some .opBusy => 8#8 | some .misalignedOffset => 9#8 | some .transferFailure => 10#8)
    ∧ err.extractLsb' 24 8 = 0#8
    ∧ readBack s 15 = le32 s.rx.b0 s.rx.b1 s.rx.b2 s.rx.b3
    ∧ rxx.extractLsb' 0 8 = s.rx.b4 ∧ rxx.extractLsb' 8 3 = s.rxlen ∧ rxx.extractLsb' 11 21 = 0#21
    ∧ readBack s 0 = s.key ∧ readBack s 1 = s.csum ∧ readBack s 2 = s.localKey ∧ readBack s 3 = s.remoteKey
    ∧ readBack s 4 = s.cursor ∧ readBack s 5 = s.window ∧ readBack s 6 = s.imgLen ∧ readBack s 7 = s.opr
    ∧ readBack s 11 = s.tocnt ∧ readBack s 12 = s.usercnt ∧ readBack s 13 = s.lastrx ∧ readBack s 14 = s.ack
    ∧ ∀ i : BitVec 5, 17 ≤ i.toNat → readBack s i = 0x00000000

/-- R381, R11, R60, R42, R388: no step changes a parameter; LINKCORE never writes the image, only the image port's holder
changes it. An image input completes and changes the one byte, or IMG_LEN, that it names. From the START that begins an
upload to the upload's end it is marked if it changes the image (log 8: the mark `imgBroken` is the model's own, it opens
CSUM only from Payload on, and a byte at or beyond IMG_LEN is no change); nothing else changes. -/
def Obligations.ParametersAndImageAreReadOnly : Prop :=
  (∀ s t : State, step s = .next t → t.params = s.params
    ∧ ((∀ a b rest, s.ports.inputs ≠ .imageByte a b :: rest) → (∀ n rest, s.ports.inputs ≠ .imageLen n :: rest) →
      t.ports.imgLen = s.ports.imgLen ∧ ∀ a : Nat, Memory.read t.ports.image a = Memory.read s.ports.image a))
  ∧ ∀ s : State,
    let marked := fun (changed : Prop) (t : State) =>
      t = { s with imgBroken := t.imgBroken, csum := t.csum, draws := t.draws, ports := t.ports }
      ∧ (ImageHeld s → changed → t.imgBroken = true)
      ∧ (¬ ImageHeld s ∨ ¬ changed → t.imgBroken = s.imgBroken ∧ t.csum = s.csum ∧ t.draws = s.draws)
      ∧ (s.uph ∉ [.payload, .trailer, .ack] → t.csum = s.csum)
    (∀ (a : Word) (b : Byte) (rest : List Input), s.ports.inputs = .imageByte a b :: rest →
      Memory.wf s.ports.image = true →
      ∃ t, step s = .next t
        ∧ (∀ x : Nat, Memory.read t.ports.image x = if x = a.toNat then b else Memory.read s.ports.image x)
        ∧ t.ports = { s.ports with inputs := rest, image := t.ports.image }
        ∧ marked (a < s.ports.imgLen ∧ b ≠ Memory.read s.ports.image a.toNat) t)
    ∧ (∀ (n : Word) (rest : List Input), s.ports.inputs = .imageLen n :: rest →
      ∃ t, step s = .next t ∧ t.ports = { s.ports with inputs := rest, imgLen := n } ∧ marked (n ≠ s.ports.imgLen) t)

/-- R30: LINK's layout, its reset value, and the invariant of every reachable state, unless DEBOUNCE_SEED, which is 60, is
given as 0. -/
def Obligations.LinkRegisterLayoutAndInvariant : Prop :=
  (∀ s : State, (readBack s 8).extractLsb' 0 2 = s.lstat.code ∧ (readBack s 8).extractLsb' 2 6 = 0#6
    ∧ (readBack s 8).extractLsb' 8 8 = s.dcnt ∧ (readBack s 8).extractLsb' 16 16 = 0#16)
  ∧ (∀ l : LinkStatus, l.code = (match l with | .noPeer => 0 | .wrongPeerType => 1 | .connected => 2))
  ∧ State.reset.lstat = .noPeer ∧ State.reset.dcnt = 0
  ∧ Config.defaults.debounceSeed = 60
  ∧ ∀ s, Reachable s → s.params.debounceSeed ≠ 0 →
    (s.dcnt = 0 ↔ s.lstat = .noPeer) ∧ s.dcnt ≤ s.params.debounceSeed

/-- R381 (with R380): a RESET, wherever it falls, sets every piece of state to its reset value (CSUM to CSUM_SEED, which is
0x000015A0; that it is the parameter's value under another seed too is log 4's) and keeps the parameters.
That it also keeps the ports, the answer line among them, but for the input that is taken, is the model's choice (log 16,
log 14). -/
def Obligations.ResetSetsEveryRegister : Prop :=
  Config.defaults.csumSeed = 0x000015A0
  ∧ ∀ (s : State) (rest : List Input), s.ports.inputs = .reset :: rest →
    ∃ t, step s = .next t
      ∧ (∀ i : BitVec 5, readBack t i = if i = 1 then s.params.csumSeed else 0x00000000)
      ∧ t.lstat = .noPeer ∧ t.dcnt = 0 ∧ t.ustate = .waitingForPeer ∧ t.hsst = .inactive ∧ t.hsp = false ∧ t.uph = .none
      ∧ t.busy = false ∧ t.hasData = false ∧ t.errBits = 0 ∧ t.lastErr = none ∧ t.rx = ⟨0, 0, 0, 0, 0⟩ ∧ t.rxlen = 0
      ∧ t.xpend = false ∧ t.atfb = true ∧ t.trig = ⟨false, false, false, false, false⟩ ∧ t.seq = .none
      ∧ t.params = s.params ∧ t.ports = { s.ports with inputs := rest }

/-! ## Transport -/

/-- R320, R327: each wire command, answered OK, writes its reply bytes together and leaves the others; answered TIMEOUT,
each of its bytes becomes 0x00 or keeps its value, TIMEOUT is recorded and TOCNT counts it. Nothing else changes but the
request issued, the response taken, XPEND (clear) and RXLEN. -/
def Obligations.WireCommandsExchange : Prop :=
  ∀ (i : Instr) (r : Request) (s : State) (rest : List Reply), requestOf s.params i = some r →
    let done := fun (st : XchgStatus) (rx : RxBuf) =>
      { s with ports := { s.ports with requests := r :: s.ports.requests, replies := rest }
               xpend := false
               rxlen := BitVec.ofNat 3 r.replyLen
               xst := st
               rx := rx }
    (∀ bs, s.ports.replies = .ok bs :: rest → bs.length = r.replyLen →
      exec i s = .next (done .ok
        ⟨bs.getD 0 s.rx.b0, bs.getD 1 s.rx.b1, bs.getD 2 s.rx.b2, bs.getD 3 s.rx.b3, bs.getD 4 s.rx.b4⟩))
    ∧ (∀ z, s.ports.replies = .timeout z :: rest → ∃ rx : RxBuf,
      exec i s = .next { done .timedOut rx with
        errBits := s.errBits ||| 1#10, lastErr := some .exchangeTimeout, tocnt := s.tocnt + 1 }
      ∧ (rx.b0 = 0 ∨ rx.b0 = s.rx.b0) ∧ (rx.b1 = 0 ∨ rx.b1 = s.rx.b1) ∧ (rx.b2 = 0 ∨ rx.b2 = s.rx.b2)
      ∧ (rx.b3 = 0 ∨ rx.b3 = s.rx.b3) ∧ (rx.b4 = 0 ∨ rx.b4 = s.rx.b4)
      ∧ (r.replyLen ≤ 1 → rx.b1 = s.rx.b1 ∧ rx.b2 = s.rx.b2) ∧ (r.replyLen ≤ 3 → rx.b3 = s.rx.b3 ∧ rx.b4 = s.rx.b4))

/-- R205, D20: every RXFILL choice is admitted: for each choice of old buffer and of zeroed bytes among the expected, some
timeout response leaves exactly that buffer. -/
def Obligations.EveryRxfillChoiceIsAdmitted : Prop :=
  ∀ (i : Instr) (r : Request) (s : State) (rest : List Reply) (zero : Nat → Bool),
    requestOf s.params i = some r →
    ∃ (z : BitVec 5) (t : State), exec i { s with ports := { s.ports with replies := .timeout z :: rest } } = .next t
      ∧ t.rx.b0 = (if zero 0 then 0 else s.rx.b0)
      ∧ (r.replyLen ≥ 3 → t.rx.b1 = (if zero 1 then 0 else s.rx.b1) ∧ t.rx.b2 = (if zero 2 then 0 else s.rx.b2))
      ∧ (r.replyLen = 5 → t.rx.b3 = (if zero 3 then 0 else s.rx.b3) ∧ t.rx.b4 = (if zero 4 then 0 else s.rx.b4))

/-- The model's choice of log 2: with no response scripted a wire command completes too, whatever the free response; it
sends its frame and writes only its own bytes of the receive buffer and the record of a timeout (R320, R327). -/
def Obligations.UnscriptedWireCommandsComplete : Prop :=
  ∀ (i : Instr) (r : Request) (s : State), requestOf s.params i = some r → s.ports.replies = [] →
    ∃ t, exec i s = .next t ∧ t.draws = s.draws + 1 ∧ t.rxlen = BitVec.ofNat 3 r.replyLen ∧ t.xpend = false
      ∧ t.ports = { s.ports with requests := r :: s.ports.requests }
      ∧ t = { s with ports := t.ports, draws := t.draws, rxlen := t.rxlen, xpend := t.xpend, rx := t.rx, xst := t.xst,
                     errBits := t.errBits, lastErr := t.lastErr, tocnt := t.tocnt }
      ∧ (r.replyLen ≤ 1 → t.rx.b1 = s.rx.b1 ∧ t.rx.b2 = s.rx.b2)
      ∧ (r.replyLen ≤ 3 → t.rx.b3 = s.rx.b3 ∧ t.rx.b4 = s.rx.b4)
      ∧ ((t.xst = .ok ∧ t.errBits = s.errBits ∧ t.lastErr = s.lastErr ∧ t.tocnt = s.tocnt)
        ∨ (t.xst = .timedOut ∧ t.errBits = s.errBits ||| 1#10 ∧ t.lastErr = some .exchangeTimeout
          ∧ t.tocnt = s.tocnt + 1
          ∧ (t.rx.b0 = 0 ∨ t.rx.b0 = s.rx.b0) ∧ (t.rx.b1 = 0 ∨ t.rx.b1 = s.rx.b1) ∧ (t.rx.b2 = 0 ∨ t.rx.b2 = s.rx.b2)
          ∧ (t.rx.b3 = 0 ∨ t.rx.b3 = s.rx.b3) ∧ (t.rx.b4 = 0 ∨ t.rx.b4 = s.rx.b4)))

/-! ## Steps -/

/-- R94, R97: an operation that is presented is decoded from its bytes and run, in the state without that input. -/
def Obligations.StepRunsThePresentedOperation : Prop :=
  ∀ (s : State) (t : OpTriple) (rest : List Input) (i : Instr), s.ports.inputs = .op t :: rest →
    decode .op t.bytes = .ok i → step s = exec i { s with ports := { s.ports with inputs := rest } }

/-- R7: in a frame action whose next step is an exchange, with no input, the frame decodes to a wire command; the step is
that command, after what `prepare` does and before what `resume` does. -/
def Obligations.StepRunsTheNextWireCommand : Prop :=
  ∀ (s u : State), (s.ports.inputs = [] ∧ u = s ∨ s.ports.inputs.head? = some .quiet
      ∧ u = { s with ports := { s.ports with inputs := s.ports.inputs.tail } }) →
    s.seq ≠ .none → s.seq ≠ .probe →
    ∃ i, decode .wire (prepare u).2 = .ok i ∧ i.port = .wire
      ∧ (∀ t, exec i (prepare u).1 = .next t → step s = .next (resume s.seq t))
      ∧ (∀ r, exec i (prepare u).1 = .fault r → step s = .fault r)

/-- No step is refused, in any state. -/
def Obligations.NoStepIsRefused : Prop := ∀ (s : State) (r : Refusal), step s ≠ .refused r

/-- R320, R385 and 93 item 17: a wire command faults on a response of another length, and a step faults exactly where the
transport breaks its contract: a response without a request, or one of another length than its exchange expects. -/
def Obligations.FaultsAreBrokenTransportContracts : Prop :=
  (∀ (i : Instr) (r : Request) (s : State) (bs : List Byte) (rest : List Reply),
    requestOf s.params i = some r → s.ports.replies = .ok bs :: rest → bs.length ≠ r.replyLen →
    exec i s = .fault .replyLength)
  ∧ ∀ (s : State) (r : Fault), step s = .fault r ↔
    (r = .unsolicitedResponse ∧ ∃ a rest, s.ports.inputs = .response a :: rest)
    ∨ (r = .replyLength ∧ quietInput s ∧ s.seq ≠ .none ∧ s.seq ≠ .probe
        ∧ ∃ bs rest, s.ports.replies = .ok bs :: rest
          ∧ bs.length ≠ (if s.seq = .hsReset ∨ s.seq = .hsStatus then 3
              else if s.seq = .remoteKey ∨ s.seq = .ack ∨ s.seq = .idleRead then 5 else 1))

/-! ## Invariants -/

/-- Everything of `MachineInv` holds right after reset, for any environment and for any parameters that are `ParamsOk`, as
R8's values are. -/
def Obligations.InvariantHoldsAfterReset : Prop :=
  ParamsOk Config.defaults ∧ ∀ s, Started s → ParamsOk s.params → MachineInv s

/-- R26, R27, R30, R31, R32, R37, R41, R326: every step keeps the whole invariant. -/
def Obligations.EveryStepKeepsTheInvariant : Prop := ∀ s t : State, MachineInv s → step s = .next t → MachineInv t

/-- R290: USTATE changes only along the table's rows, and only in the step that the row names (or by RESET). READY_BIT is
bit 4 of the Status reply's third byte (R203). -/
def Obligations.SessionTransitionsAreTheTable : Prop :=
  Config.defaults.readyBit = 0x10
  ∧ ∀ s t : State, MachineInv s → step s = .next t → t.ustate ≠ s.ustate →
    (s.ustate = .waitingForPeer ∧ t.ustate = .peerReady ∧ s.seq = .hsStatus ∧ t.rx.b2 &&& s.params.readyBit ≠ 0)
    ∨ (s.ustate = .peerReady ∧ t.ustate = .waitingForPeer ∧ s.seq = .probe ∧ t.lstat ≠ .connected)
    ∨ (s.ustate = .peerReady ∧ t.ustate = .idle ∧ s.seq = .ack ∧ t.uph = .done)
    ∨ (s.ustate = .idle ∧ t.ustate = .waitingForPeer ∧ s.seq = .probe ∧ (s.trig.disc = true ∨ t.lstat ≠ .connected))
    ∨ ((∃ rest, s.ports.inputs = .reset :: rest) ∧ t.ustate = .waitingForPeer)

/-! ## Frame actions -/

/-- R291, R295: a tick with ATFB = 1 starts a frame action and samples the triggers; with ATFB = 0 it is lost. The mark of
an image change, which is the model's own, is cleared unless an upload is in its step 1 (log 8). -/
def Obligations.FrameTickStartsOrIsLost : Prop :=
  ∀ (s : State) (l : Triggers) (rest : List Input), s.ports.inputs = .frame l :: rest →
    step s = .next
      (if s.atfb then
        { s with atfb := false, busy := true, trig := l, seq := .probe, imgBroken := s.imgBroken && uploadActive s,
                 ports := { s.ports with inputs := rest } }
      else { s with ports := { s.ports with inputs := rest } })

/-- R298, R296, R292, R293: what a frame does outside uploads and Idle, from the tick to the end of the frame action
(steps cut as log 3 says). From WaitingForPeer a Connected probe and a ready Status reply lead to PeerReady, whatever
answers the Reset. From PeerReady a poll that leaves the link not Connected falls back with PeerAbsent or PeerWrongType,
and START is discarded. In WaitingForPeer with the link not Connected and no handshake running, and in PeerReady on a
Connected link without START, nothing happens but the poll. One inconclusive probe does not leave Connected while
DCNT > 1. That the mark of an image change is cleared is log 8's. -/
def Obligations.FramePropertiesOfTheSession : Prop :=
  classify Config.defaults 0x00040000 = .connectedType ∧ Config.defaults.readyBit = 0x10
  ∧ (∀ (s : State) (l : Triggers) (q : Word) (ps : List Word) (r : Reply) (d e f : Byte) (rest : List Reply),
    s.atfb = true → s.ustate = .waitingForPeer → s.ports.inputs = [.frame l] → s.ports.probes = q :: ps →
    classify s.params q = .connectedType → s.ports.replies = r :: .ok [d, e, f] :: rest → r.fits 3 = true →
    f &&& s.params.readyBit ≠ 0 →
    ∃ t, runSteps 4 s = .next t ∧ t.ustate = .peerReady ∧ t.seq = .none ∧ t.busy = false ∧ t.atfb = true)
  ∧ (∀ (s : State) (l : Triggers) (p : Word) (ps : List Word),
    s.atfb = true → s.ports.inputs = [.frame l] → s.ports.probes = p :: ps →
    let polled := { s with
      lstat := (linkUpdate p s).lstat, dcnt := (linkUpdate p s).dcnt, trig := l, seq := .none, busy := false,
      xpend := false, imgBroken := s.imgBroken && uploadActive s,
      ports := { s.ports with inputs := [], probes := ps, probeCount := s.ports.probeCount + 1 } }
    (s.ustate = .peerReady → s.uph ≠ .handshake → polled.lstat = .noPeer →
      runSteps 2 s = .next { polled with
        ustate := .waitingForPeer, errBits := s.errBits ||| 0x002#10, lastErr := some .peerAbsent })
    ∧ (s.ustate = .peerReady → s.uph ≠ .handshake → polled.lstat = .wrongPeerType →
      runSteps 2 s = .next { polled with
        ustate := .waitingForPeer, errBits := s.errBits ||| 0x004#10, lastErr := some .peerWrongType })
    ∧ (s.ustate = .peerReady → s.uph ≠ .handshake → polled.lstat = .connected → l.start = false →
      runSteps 2 s = .next polled)
    ∧ (s.ustate = .waitingForPeer → s.hsst ≠ .awaitingBios → polled.lstat ≠ .connected → runSteps 2 s = .next polled))
  ∧ (∀ (s : State) (q : Word), classify s.params q = .inconclusive → s.lstat = .connected → 1#8 < s.dcnt →
    (linkUpdate q s).lstat = .connected)

/-- R295: START has no effect in WaitingForPeer, in Idle, or during any step of an upload; INC, DEC, SEND and DISC have
none outside Idle, and at the exchanges of Idle only INC, DEC and SEND are used, at its read. Where a trigger is not used,
the step gives the same state up to the latched sample; the first part is the step that runs the state action, the second
every step that is an exchange. -/
def Obligations.UnusedTriggersHaveNoEffect : Prop :=
  (∀ (s t : State) (l : Triggers), s.ports.inputs = [] → s.seq = .probe → step s = .next t →
    (s.ustate = .waitingForPeer ∨ (s.ustate = .peerReady ∧ (s.uph = .handshake ∨ l.start = s.trig.start))
      ∨ (s.ustate = .idle ∧ l = { s.trig with start := l.start })) →
    step { s with trig := l } = .next { t with trig := l })
  ∧ ∀ (s t : State) (l : Triggers), s.ports.inputs = [] → s.seq ≠ .none → s.seq ≠ .probe → step s = .next t →
    (s.seq = .idleRead → l.inc = s.trig.inc ∧ l.dec = s.trig.dec ∧ l.send = s.trig.send) →
    step { s with trig := l } = .next { t with trig := l }

/-- R202, R203, R205, R254, R292, R293: one handshake iteration on a Connected link is the exchanges FF and 00, whatever is
answered (steps cut as log 3 says). It ends the handshake exactly if READY_BIT, bit 4, of the third byte is then set: in
WaitingForPeer the frame action ends in PeerReady, in an upload's step 1 step 2 is next in the same frame action. If not,
the frame action ends and the session state and the upload's phase stay. The first part starts at the Reset exchange. The
second starts at the probe: every frame action in WaitingForPeer, and in an upload's step 1, whose poll leaves the link
Connected, whatever the probe word was, runs exactly this one iteration, and if the peer is not ready HSST is AwaitingBios
after it, so the next frame tries again; in WaitingForPeer a handshake that is not running is started first (R201). -/
def Obligations.HandshakeIteration : Prop :=
  let iterated := fun (s t : State) (pending : HandshakeState) =>
    t.ports.requests = ⟨[0x00#8], 3, s.params.xchgTimeout⟩ :: ⟨[0xFF#8], 3, s.params.xchgTimeout⟩ :: s.ports.requests
    ∧ t.hsp = false
    ∧ (t.rx.b2 &&& s.params.readyBit ≠ 0 → t.hsst = .ready ∧ t.ustate = .peerReady
        ∧ (s.ustate = .waitingForPeer → t.uph = s.uph ∧ t.seq = .none ∧ t.busy = false ∧ t.atfb = true)
        ∧ (s.ustate = .peerReady → t.uph = .remoteKey ∧ t.seq = .remoteKey ∧ t.busy = s.busy ∧ t.atfb = s.atfb))
    ∧ (t.rx.b2 &&& s.params.readyBit = 0 → t.hsst = pending ∧ t.ustate = s.ustate ∧ t.uph = s.uph ∧ t.seq = .none
        ∧ t.busy = false ∧ t.atfb = true)
  Config.defaults.readyBit = 0x10
  ∧ (∀ s : State, s.ports.inputs = [] → s.seq = .hsReset →
    (s.ustate = .waitingForPeer ∨ (s.ustate = .peerReady ∧ s.uph = .handshake)) →
    repliesFit [3, 3] s.ports.replies = true →
    ∃ t, runSteps 2 s = .next t ∧ iterated s t s.hsst ∧ t.lstat = s.lstat)
  ∧ ∀ (s : State) (p : Word) (ps : List Word), s.ports.inputs = [] → s.seq = .probe →
    (s.ustate = .waitingForPeer ∨ (s.ustate = .peerReady ∧ s.uph = .handshake ∧ s.hsst = .awaitingBios)) →
    s.ports.probes = p :: ps → (linkUpdate p s).lstat = .connected → repliesFit [3, 3] s.ports.replies = true →
    ∃ t, runSteps 3 s = .next t ∧ iterated s t .awaitingBios
      ∧ t.lstat = .connected ∧ t.dcnt = (linkUpdate p s).dcnt
      ∧ t.ports.probes = ps ∧ t.ports.probeCount = s.ports.probeCount + 1

/-- R202, R343, R344: an iteration that finds the link not Connected aborts: no exchange, HSST Inactive, PeerAbsent or
PeerWrongType recorded; in an upload's step 1 the upload fails and USTATE falls back (R254, R293). -/
def Obligations.HandshakeAbort : Prop :=
  ∀ (s : State) (p : Word) (ps : List Word), s.ports.inputs = [] → s.seq = .probe → s.hsst = .awaitingBios →
    (s.ustate = .waitingForPeer ∨ (s.ustate = .peerReady ∧ s.uph = .handshake)) →
    s.ports.probes = p :: ps → (linkUpdate p s).lstat ≠ .connected →
    ∃ t, step s = .next t ∧ t.hsst = .inactive ∧ t.hsp = false ∧ t.ustate = .waitingForPeer ∧ t.seq = .none
      ∧ t.busy = false ∧ t.ports.requests = s.ports.requests ∧ t.lstat = (linkUpdate p s).lstat
      ∧ t.uph = (if s.ustate = .peerReady then .failed else s.uph)
      ∧ (t.lstat = .noPeer → t.errBits = s.errBits ||| 0x002#10 ∧ t.lastErr = some .peerAbsent)
      ∧ (t.lstat = .wrongPeerType → t.errBits = s.errBits ||| 0x004#10 ∧ t.lastErr = some .peerWrongType)

/-- R250 to R252, R353: validation (MIN_WINDOW is 0x200), in its order, before any exchange, on START with the
link Connected after the poll, whatever the probe word was; a rejected image leaves every register but IMGLEN, WINDOW, ERR
and the status alone and ends the frame action. A valid image starts the handshake of step 1 (R254, R201); that the step ends there, with the Reset
exchange next, is the model's cut (log 3), and that CURSOR keeps its value until step 3 is the model's reading (log 20). -/
def Obligations.UploadValidation : Prop :=
  Config.defaults.minWindow = 0x200
  ∧ ∀ (s : State) (p : Word) (ps : List Word), s.ports.inputs = [] → s.seq = .probe → s.ustate = .peerReady →
    s.uph ≠ .handshake → s.trig.start = true → s.ports.probes = p :: ps → (linkUpdate p s).lstat = .connected →
    ∃ t, step s = .next t
      ∧ t.imgLen = s.ports.imgLen ∧ t.ports.requests = s.ports.requests ∧ t.ustate = .peerReady
      ∧ t.key = s.key ∧ t.csum = s.csum ∧ t.localKey = s.localKey ∧ t.remoteKey = s.remoteKey ∧ t.cursor = s.cursor
      ∧ t.lstat = .connected ∧ t.dcnt = (linkUpdate p s).dcnt
      ∧ (t.uph = .failed → t.hsst = s.hsst ∧ t.seq = .none ∧ t.busy = false ∧ t.atfb = true)
      ∧ (if s.ports.imgLen &&& 3 ≠ 0 then
          t.uph = .failed ∧ t.window = s.window ∧ t.errBits = s.errBits ||| 0x008#10 ∧ t.lastErr = some .malformedImage
        else if s.params.maxImageLen < s.ports.imgLen then
          t.uph = .failed ∧ t.window = s.window ∧ t.errBits = s.errBits ||| 0x020#10 ∧ t.lastErr = some .imageTooLarge
        else t.window = (s.ports.imgLen + 7) &&& ~~~7
          ∧ (if t.window < s.params.minWindow then
              t.uph = .failed ∧ t.errBits = s.errBits ||| 0x010#10 ∧ t.lastErr = some .windowTooSmall
            else t.uph = .handshake ∧ t.hsst = .awaitingBios ∧ t.hsp = false ∧ t.seq = .hsReset ∧ t.busy = s.busy
              ∧ t.errBits = s.errBits ∧ t.lastErr = s.lastErr))

/-- R255 to R257: the key exchange: Read, REMOTEKEY decoded from the receive buffer as it then stands; LOCALKEY derived
from WINDOW and sent most significant byte first; then KEY, CSUM and CURSOR are initialised. Unless a timeout aborts the
upload, and with no change of the image (log 8). -/
def Obligations.KeyExchangeOfAnUpload : Prop :=
  Config.defaults.csumSeed = 0x000015A0
  ∧ ∀ s : State, s.ports.inputs = [] → s.seq = .remoteKey → s.imgBroken = false → NoAbort 2 s →
    repliesFit [5, 1] s.ports.replies = true →
    ∃ t u, step s = .next t ∧ step t = .next u
      ∧ t.remoteKey = le32 t.rx.b0 t.rx.b1 t.rx.b2 t.rx.b3 ^^^ s.params.remoteKeyXor
      ∧ t.ports.requests = ⟨[0x14#8], 5, s.params.xchgTimeout⟩ :: s.ports.requests ∧ t.key = s.key ∧ t.csum = s.csum
      ∧ u.remoteKey = t.remoteKey ∧ u.localKey = deriveLocalKey s.params s.window
      ∧ u.ports.requests = ⟨[0x15#8, u.localKey.extractLsb' 24 8, u.localKey.extractLsb' 16 8,
          u.localKey.extractLsb' 8 8, u.localKey.extractLsb' 0 8], 1, s.params.xchgTimeout⟩ :: t.ports.requests
      ∧ u.key = seedKey s.params u.localKey u.remoteKey ∧ u.csum = s.params.csumSeed ∧ u.cursor = 0
      ∧ u.uph = .header ∧ u.seq = .header

/-- R258, R67, R185: the header: one Write for each word of HEADER_LEN (48 words, since it is 0xC0), which carry the image
bytes in ascending order; neither KEY nor CSUM changes. Unless a timeout aborts the upload, and with no change of the image
(log 8). -/
def Obligations.HeaderPhaseSendsTheImageBytes : Prop :=
  Config.defaults.headerLen = 0xC0 ∧ Config.defaults.headerLen.toNat = 4 * 48
  ∧ ∀ (s : State) (h : Nat), s.ports.inputs = [] → s.seq = .header → s.cursor = 0 → s.imgBroken = false →
    s.params.headerLen.toNat = 4 * h → 0 < h → NoAbort h s → s.params.headerLen < s.window →
    repliesFit (List.replicate h 1) s.ports.replies = true →
    ∃ t, runSteps h s = .next t ∧ t.seq = .payload ∧ t.uph = .payload ∧ t.cursor = s.params.headerLen
      ∧ t.key = s.key ∧ t.csum = s.csum
      ∧ t.ports.requests = ((List.range h).map fun j => Request.mk [0x15#8, imageByte s (4 * j), imageByte s (4 * j + 1),
          imageByte s (4 * j + 2), imageByte s (4 * j + 3)] 1 s.params.xchgTimeout).reverse ++ s.ports.requests

/-- R259, R135, R387: the payload: one Write for each word up to WINDOW, the plaintext folded, the key advanced once per
word before its mask, the requests in order. Unless a timeout aborts the upload, and with no change of the image (log 8). -/
def Obligations.PayloadPhaseSendsEveryWord : Prop :=
  ∀ (s : State) (n : Nat), s.ports.inputs = [] → s.seq = .payload → s.imgBroken = false → NoAbort n s → 0 < n →
    s.cursor.toNat + 4 * n = s.window.toNat → repliesFit (List.replicate n 1) s.ports.replies = true →
    ∃ t, runSteps n s = .next t ∧ t.seq = .trailer ∧ t.uph = .trailer ∧ t.cursor = s.window
      ∧ t.key = advTimes s.params n s.key ∧ t.csum = (imageWords s n s.cursor).foldl (fold s.params) s.csum
      ∧ t.ports.requests = (payloadRequests s n s.key s.cursor).reverse ++ s.ports.requests

/-- R260, R136, R261: the trailer and the acknowledgement: the length is ORed in, the key is advanced once more, the
checksum is masked at offset W and sent; then the reply of one Read is recorded in ACK and not validated: the upload
succeeds whatever it is. Unless a timeout aborts the upload, and with no change of the image (log 8). -/
def Obligations.TrailerAndAcknowledgement : Prop :=
  Config.defaults.lcgMul = 0x6177614B ∧ Config.defaults.lcgInc = 1
  ∧ ∀ s : State, s.ports.inputs = [] → s.seq = .trailer → s.imgBroken = false → NoAbort 2 s →
    repliesFit [1, 5] s.ports.replies = true →
    let len : Word := match s.params.csumLenField with | .imageLength => s.imgLen | .windowSize => s.window
    let c := s.csum ||| (len <<< 16)
    let k := s.key * s.params.lcgMul + s.params.lcgInc
    ∃ t u, step s = .next t ∧ step t = .next u
      ∧ t.csum = c ∧ t.key = k ∧ t.cursor = s.cursor ∧ t.uph = .ack ∧ t.seq = .ack
      ∧ t.ports.requests = ⟨writeFrame (c ^^^ cipherMask s.params k s.window), 1, s.params.xchgTimeout⟩ :: s.ports.requests
      ∧ u.csum = c ∧ u.key = k ∧ u.ack = le32 u.rx.b0 u.rx.b1 u.rx.b2 u.rx.b3 ∧ u.uph = .done ∧ u.ustate = .idle
      ∧ u.ports.requests = ⟨[0x14#8], 5, s.params.xchgTimeout⟩ :: t.ports.requests
      ∧ u.seq = .none ∧ u.busy = false ∧ u.atfb = true

/-- R262: the exchanges and the key advances of an upload that is not aborted, from step 2 to its success, whatever the
peer answers: of `h` header words (48, since HEADER_LEN is 0xC0) and `n` payload words. The hypotheses admit an upload whose
image changed: there the counts and KEY are the model's reading of R388 (log 8). -/
def Obligations.UploadExchangeCounts : Prop :=
  Config.defaults.headerLen.toNat = 4 * 48
  ∧ ∀ (s : State) (h n : Nat), s.ports.inputs = [] → s.seq = .remoteKey → NoAbort (4 + h + n) s → 0 < h → 0 < n →
    s.params.headerLen.toNat = 4 * h → 4 * h + 4 * n = s.window.toNat →
    repliesFit (uploadReplyLens h n) s.ports.replies = true →
    ∃ (t : State) (sent : List Request), runSteps (4 + h + n) s = .next t
      ∧ t.ports.requests = sent ++ s.ports.requests
      ∧ (sent.filter isWrite).length = 2 + h + n ∧ (sent.filter isRead).length = 2 ∧ sent.length = 4 + h + n
      ∧ t.key = advTimes s.params (n + 1) (seedKey s.params t.localKey t.remoteKey)
      ∧ t.uph = .done ∧ t.ustate = .idle ∧ t.cursor = s.window ∧ t.seq = .none ∧ t.busy = false

/-- R268, R184: from the requests that the payload and the trailer of an upload issue, a peer that starts from the same
key, advances it as R181 says once per frame and takes off the mask of R183 at the same offsets recovers every payload word
in order, and then the checksum of those words with the length (R135, R136). The last word of the payload stands below
WINDOW, so the trailer's offset is WINDOW. -/
def Obligations.PeerRecoversThePayload : Prop :=
  ∀ (s : State) (n : Nat), s.ports.inputs = [] → s.seq = .payload → s.imgBroken = false → NoAbort (n + 1) s → 0 < n →
    s.cursor.toNat + 4 * n = s.window.toNat → repliesFit (List.replicate (n + 1) 1) s.ports.replies = true →
    let len : Word := match s.params.csumLenField with | .imageLength => s.imgLen | .windowSize => s.window
    ∃ (t : State) (sent : List Request), runSteps (n + 1) s = .next t ∧ t.ports.requests = sent.reverse ++ s.ports.requests
      ∧ peerWords s.params s.key s.cursor sent
          = (imageWords s n s.cursor).map some
            ++ [some ((imageWords s n s.cursor).foldl (fold s.params) s.csum ||| (len <<< 16))]

/-- R263, R351: with ABORT_ON_TIMEOUT a timed-out exchange of steps 2 to 7 records ExchangeTimeout and TransferFailure,
fails the upload and issues nothing further; USTATE stays. -/
def Obligations.TimeoutAbortsTheTransfer : Prop :=
  ∀ (s : State) (z : BitVec 5) (rest : List Reply), s.ports.inputs = [] →
    (s.seq = .remoteKey ∨ s.seq = .localKey ∨ s.seq = .header ∨ s.seq = .payload ∨ s.seq = .trailer ∨ s.seq = .ack) →
    s.params.abortOnTimeout = true → s.ports.replies = .timeout z :: rest →
    ∃ t, step s = .next t ∧ t.uph = .failed ∧ t.ustate = s.ustate ∧ t.errBits = s.errBits ||| 0x201#10
      ∧ t.lastErr = some .transferFailure ∧ t.tocnt = s.tocnt + 1 ∧ t.seq = .none ∧ t.busy = false ∧ t.atfb = true
      ∧ t.ports.requests.length = s.ports.requests.length + 1 ∧ t.ports.replies = rest

/-- R294: the Idle read and the optional write: HASDATA (by HASDATA_BIT, bit 3 of the fifth byte) and LASTRX
from the reply, INC then DEC, and on SEND a Write of the counter, least significant byte first. Without SEND the frame
action ends with the read, whatever response is scripted next. -/
def Obligations.IdleReadAndWrite : Prop :=
  Config.defaults.hasDataBit = 0x08
  ∧ ∀ s : State, s.ports.inputs = [] → s.seq = .idleRead → repliesFit [5] s.ports.replies = true →
    ∃ t, step s = .next t
      ∧ t.hasData = (t.rx.b4 &&& s.params.hasDataBit != 0)
      ∧ t.lastrx = (if t.rx.b4 &&& s.params.hasDataBit ≠ 0 then le32 t.rx.b0 t.rx.b1 t.rx.b2 t.rx.b3 else s.lastrx)
      ∧ t.usercnt = s.usercnt + (if s.trig.inc then 1 else 0) - (if s.trig.dec then 1 else 0)
      ∧ t.ports.requests = ⟨[0x14#8], 5, s.params.xchgTimeout⟩ :: s.ports.requests
      ∧ (s.trig.send = false → t.seq = .none ∧ t.busy = false ∧ t.atfb = true)
      ∧ (s.trig.send = true → t.seq = .idleWrite)
      ∧ (s.trig.send = true → repliesFit [5, 1] s.ports.replies = true →
          ∃ u, step t = .next u ∧ u.seq = .none ∧ u.busy = false ∧ u.atfb = true
          ∧ u.usercnt = t.usercnt ∧ u.hasData = t.hasData ∧ u.lastrx = t.lastrx
          ∧ u.ports.requests = ⟨[0x15#8, t.usercnt.extractLsb' 0 8, t.usercnt.extractLsb' 8 8,
              t.usercnt.extractLsb' 16 8, t.usercnt.extractLsb' 24 8], 1, s.params.xchgTimeout⟩ :: t.ports.requests)

/-- R294, R296: at the start of an Idle action DISC drops the link and falls back without an error; a link that is not
Connected falls back with PeerAbsent or PeerWrongType; neither issues an exchange. -/
def Obligations.IdleLeavesOnDisconnect : Prop :=
  ∀ (s : State) (p : Word) (ps : List Word), s.ports.inputs = [] → s.seq = .probe → s.ustate = .idle →
    s.ports.probes = p :: ps →
    ∃ t, step s = .next t ∧ t.ports.requests = s.ports.requests
      ∧ (if s.trig.disc then
          t.ustate = .waitingForPeer ∧ t.lstat = .noPeer ∧ t.dcnt = 0 ∧ t.errBits = s.errBits ∧ t.lastErr = s.lastErr
            ∧ t.seq = .none
        else if (linkUpdate p s).lstat = .noPeer then
          t.ustate = .waitingForPeer ∧ t.errBits = s.errBits ||| 0x002#10 ∧ t.lastErr = some .peerAbsent ∧ t.seq = .none
        else if (linkUpdate p s).lstat = .wrongPeerType then
          t.ustate = .waitingForPeer ∧ t.errBits = s.errBits ||| 0x004#10 ∧ t.lastErr = some .peerWrongType
            ∧ t.seq = .none
        else t.ustate = .idle ∧ t.seq = .idleRead ∧ t.errBits = s.errBits)
      ∧ t.hsst = s.hsst ∧ t.uph = s.uph
end

