-- ==== Sys2Proof/Laws/Bytes.lean ====
section
/-! SUPPORT. Words and bytes, and what the decoder makes of the bytes of a triple or of a wire frame. -/

namespace Sys2Proof

/-- The byte of a word that four bytes make. -/
@[simp] theorem byteOf_zero_le32 (b0 b1 b2 b3 : Byte) : byteOf 0 (le32 b0 b1 b2 b3) = b0 := by
  apply BitVec.eq_of_getLsbD_eq
  intro i hi
  simp only [byteOf, le32, BitVec.getLsbD_extractLsb', BitVec.getLsbD_append]
  simp [hi]

@[simp] theorem byteOf_one_le32 (b0 b1 b2 b3 : Byte) : byteOf 1 (le32 b0 b1 b2 b3) = b1 := by
  apply BitVec.eq_of_getLsbD_eq
  intro i hi
  simp only [byteOf, le32, BitVec.getLsbD_extractLsb', BitVec.getLsbD_append]
  simp [hi]

@[simp] theorem byteOf_two_le32 (b0 b1 b2 b3 : Byte) : byteOf 2 (le32 b0 b1 b2 b3) = b2 := by
  apply BitVec.eq_of_getLsbD_eq
  intro i hi
  have h2 : 16 + i - 8 - 8 = i := by omega
  simp only [byteOf, le32, BitVec.getLsbD_extractLsb', BitVec.getLsbD_append]
  simp [hi, h2, show ¬ (16 + i < 8) by omega, show ¬ (16 + i - 8 < 8) by omega]

@[simp] theorem byteOf_three_le32 (b0 b1 b2 b3 : Byte) : byteOf 3 (le32 b0 b1 b2 b3) = b3 := by
  apply BitVec.eq_of_getLsbD_eq
  intro i hi
  have h2 : 24 + i - 8 - 8 - 8 = i := by omega
  simp only [byteOf, le32, BitVec.getLsbD_extractLsb', BitVec.getLsbD_append]
  simp [hi, h2, show ¬ (24 + i < 8) by omega, show ¬ (24 + i - 8 < 8) by omega, show ¬ (24 + i - 8 - 8 < 8) by omega]

/-- A word is made of its bytes (R64, R100). -/
@[simp] theorem le32_byteOf (v : Word) : le32 (byteOf 0 v) (byteOf 1 v) (byteOf 2 v) (byteOf 3 v) = v := by
  apply BitVec.eq_of_getLsbD_eq
  intro i hi
  simp only [byteOf, le32, BitVec.getLsbD_append, BitVec.getLsbD_extractLsb']
  by_cases h0 : i < 8
  · simp [h0]
  · by_cases h1 : i - 8 < 8
    · have : 8 + (i - 8) = i := by omega
      simp [h0, h1, this]
    · by_cases h2 : i - 8 - 8 < 8
      · have : 16 + (i - 8 - 8) = i := by omega
        simp [h0, h1, h2, this]
      · have : 24 + (i - 8 - 8 - 8) = i := by omega
        have h3 : i - 8 - 8 - 8 < 8 := by omega
        simp [h0, h1, h2, h3, this]

/-- The two fields of an operation word that is put together from them (R94). -/
@[simp] theorem mbzOf_append (mbz opc : BitVec 4) : mbzOf (mbz ++ opc) = mbz := by
  apply BitVec.eq_of_getLsbD_eq
  intro i hi
  simp only [mbzOf, BitVec.getLsbD_extractLsb', BitVec.getLsbD_append]
  simp [hi]

@[simp] theorem opcOf_append (mbz opc : BitVec 4) : opcOf (mbz ++ opc) = opc := by
  apply BitVec.eq_of_getLsbD_eq
  intro i hi
  simp only [opcOf, BitVec.getLsbD_extractLsb', BitVec.getLsbD_append]
  simp [hi]

/-- The nine bytes of a triple decode to the triple's instruction. -/
@[simp] theorem decode_triple_bytes (t : OpTriple) : decode .op t.bytes = .ok (decodeTriple t) := by
  simp [decode, decodeOp, OpTriple.bytes, leBytes]

/-- A Write frame decodes to the Write of its value. -/
@[simp] theorem decode_writeFrame (v : Word) : decode .wire (writeFrame v) = .ok (.wireWrite v) := by
  simp [decode, decodeWire, writeFrame, leBytes]

/-- Any four bytes after 0x15 are the Write of their little-endian value. -/
@[simp] theorem decode_write_bytes (b0 b1 b2 b3 : Byte) :
    decode .wire [0x15#8, b0, b1, b2, b3] = .ok (.wireWrite (le32 b0 b1 b2 b3)) := rfl

/-- The Write frame of a value made of four bytes. -/
@[simp] theorem writeFrame_le32 (b0 b1 b2 b3 : Byte) : writeFrame (le32 b0 b1 b2 b3) = [0x15#8, b0, b1, b2, b3] := by
  simp [writeFrame, leBytes]

/-- The one-byte frames. -/
@[simp] theorem decode_frame_reset : decode .wire [0xFF#8] = .ok .wireReset := rfl
@[simp] theorem decode_frame_status : decode .wire [0x00#8] = .ok .wireStatus := rfl
@[simp] theorem decode_frame_read : decode .wire [0x14#8] = .ok .wireRead := rfl

end Sys2Proof
end

