-- ==== Sys2Proof/Laws/Memory.lean ====
section
/-! SUPPORT. The laws of the image memory: a read after a write, the canonical form, and what an input of the image port
changes. -/

namespace Sys2Proof.Machine

/-- Reading the byte that was written. -/
theorem read_write_same (m : Memory) (a : Nat) (b : Byte) (lo : Nat) (h : Memory.wfFrom lo m = true) :
    Memory.read (Memory.write m a b) a = b := by
  induction m generalizing lo with
  | nil => by_cases hb : b = Memory.unlisted <;> simp [Memory.write, Memory.read, hb]
  | cons c m ih =>
    obtain ⟨k, v⟩ := c
    simp only [Memory.wfFrom, Bool.and_eq_true, decide_eq_true_eq] at h
    obtain ⟨⟨-, -⟩, hm⟩ := h
    have below : ∀ (m : Memory) (lo : Nat), Memory.wfFrom lo m = true → a < lo → Memory.read m a = Memory.unlisted := by
      intro m
      induction m with
      | nil => intro _ _ _; rfl
      | cons d m ih' =>
        intro lo h hlt
        obtain ⟨j, w⟩ := d
        simp only [Memory.wfFrom, Bool.and_eq_true, decide_eq_true_eq] at h
        have : a ≠ j := by omega
        simp [Memory.read, this, ih' _ h.2 (by omega)]
    by_cases h1 : a < k
    · by_cases hb : b = Memory.unlisted
      · have : a ≠ k := by omega
        simp [Memory.write, h1, hb, Memory.read, this, below m (k + 1) hm (by omega)]
      · simp [Memory.write, h1, hb, Memory.read]
    · by_cases h2 : a = k
      · by_cases hb : b = Memory.unlisted
        · subst h2
          simp [Memory.write, hb, below m (a + 1) hm (by omega)]
        · simp [Memory.write, h2, hb, Memory.read]
      · simp [Memory.write, h1, h2, Memory.read, ih _ hm]

/-- Reading another byte than the one that was written. -/
theorem read_write_other (m : Memory) (a c : Nat) (b : Byte) (h : c ≠ a) :
    Memory.read (Memory.write m a b) c = Memory.read m c := by
  induction m with
  | nil => by_cases hb : b = Memory.unlisted <;> simp [Memory.write, Memory.read, hb, h]
  | cons d m ih =>
    obtain ⟨k, v⟩ := d
    by_cases h1 : a < k
    · by_cases hb : b = Memory.unlisted <;> simp [Memory.write, h1, hb, Memory.read, h]
    · by_cases h2 : a = k
      · subst h2
        by_cases hb : b = Memory.unlisted <;> simp [Memory.write, hb, Memory.read, h]
      · simp [Memory.write, h1, h2, Memory.read, ih]

/-- A write keeps every address above the bound. -/
theorem wfFrom_write (m : Memory) (a : Nat) (b : Byte) (lo : Nat) (h : Memory.wfFrom lo m = true) (ha : lo ≤ a) :
    Memory.wfFrom lo (Memory.write m a b) = true := by
  induction m generalizing lo with
  | nil => by_cases hb : b = Memory.unlisted <;> simp [Memory.write, Memory.wfFrom, hb, ha]
  | cons d m ih =>
    obtain ⟨k, v⟩ := d
    simp only [Memory.wfFrom, Bool.and_eq_true, decide_eq_true_eq, bne_iff_ne] at h
    obtain ⟨⟨hk, hv⟩, hm⟩ := h
    by_cases h1 : a < k
    · by_cases hb : b = Memory.unlisted
      · simp [Memory.write, h1, hb, Memory.wfFrom, hk, hv, hm]
      · simp [Memory.write, h1, hb, Memory.wfFrom, ha, hv, hm]
    · by_cases h2 : a = k
      · subst h2
        by_cases hb : b = Memory.unlisted
        · have mono : ∀ (m : Memory) (i j : Nat), i ≤ j → Memory.wfFrom j m = true → Memory.wfFrom i m = true := by
            intro m
            cases m with
            | nil => intro _ _ _ _; rfl
            | cons e m =>
              intro i j hij hj
              simp only [Memory.wfFrom, Bool.and_eq_true, decide_eq_true_eq, bne_iff_ne] at hj ⊢
              exact ⟨⟨by omega, hj.1.2⟩, hj.2⟩
          simpa [Memory.write, hb] using mono m lo (a + 1) (by omega) hm
        · simp [Memory.write, hb, Memory.wfFrom, ha, hm]
      · simp [Memory.write, h1, h2, Memory.wfFrom, hk, hv, ih (k + 1) hm (by omega)]

/-- A write keeps the canonical form. -/
theorem wf_write (m : Memory) (a : Nat) (b : Byte) (h : Memory.wf m = true) : Memory.wf (Memory.write m a b) = true :=
  wfFrom_write m a b 0 h (Nat.zero_le a)

/-- The image memory after reset is in canonical form. -/
theorem wf_reset : Memory.wf State.reset.ports.image = true := rfl

/-! ## The image port as an input -/

/-- All that a change of the image port marks: the flag, and the sum under way with its draw (R388). -/
theorem markImageChange_eq (c : Bool) (s : State) :
    markImageChange c s =
      { s with imgBroken := s.imgBroken || (c && imageHeld s)
               csum := if c && imageHeld s && checksumUnderWay s then Config.freeCsum s.draws else s.csum
               draws := if c && imageHeld s && checksumUnderWay s then s.draws + 1 else s.draws } := by
  unfold markImageChange breakImage drawn
  cases hc : c && imageHeld s <;> cases hs : checksumUnderWay s <;> simp

/-- Marking leaves the ports alone. -/
@[simp] theorem markImageChange_ports (c : Bool) (s : State) : (markImageChange c s).ports = s.ports := by
  rw [markImageChange_eq]

/-- IMG_LEN after it changed, and what else changes. -/
theorem setImageLen_eq (n : Word) (s : State) :
    setImageLen n s = { markImageChange (n != s.ports.imgLen) s with ports := { s.ports with imgLen := n } } := by
  simp only [setImageLen, markImageChange_ports]

/-- An image byte after it changed, and what else changes. -/
theorem setImageByte_eq (a : Word) (b : Byte) (s : State) :
    setImageByte a b s =
      { markImageChange (decide (a < s.ports.imgLen) && b != Memory.read s.ports.image a.toNat) s with
        ports := { s.ports with image := Memory.write s.ports.image a.toNat b } } := by
  simp only [setImageByte, markImageChange_ports]

/-- The two image inputs keep the canonical form. -/
theorem wf_setImageLen (n : Word) (s : State) (h : Memory.wf s.ports.image = true) :
    Memory.wf (setImageLen n s).ports.image = true := by rw [setImageLen_eq]; exact h

theorem wf_setImageByte (a : Word) (b : Byte) (s : State) (h : Memory.wf s.ports.image = true) :
    Memory.wf (setImageByte a b s).ports.image = true := by rw [setImageByte_eq]; exact wf_write _ _ _ h

end Sys2Proof.Machine
end

