-- ==== Sys2Proof/Laws/State.lean ====
section
/-! SUPPORT. One lemma per field for each named update of the state: what the field is after it. -/

namespace Sys2Proof.Machine

variable (s : State)

/-! ## raise -/

@[simp] theorem raise_key (e : ErrCode) : (raise e s).key = s.key := rfl
@[simp] theorem raise_csum (e : ErrCode) : (raise e s).csum = s.csum := rfl
@[simp] theorem raise_localKey (e : ErrCode) : (raise e s).localKey = s.localKey := rfl
@[simp] theorem raise_remoteKey (e : ErrCode) : (raise e s).remoteKey = s.remoteKey := rfl
@[simp] theorem raise_cursor (e : ErrCode) : (raise e s).cursor = s.cursor := rfl
@[simp] theorem raise_window (e : ErrCode) : (raise e s).window = s.window := rfl
@[simp] theorem raise_imgLen (e : ErrCode) : (raise e s).imgLen = s.imgLen := rfl
@[simp] theorem raise_opr (e : ErrCode) : (raise e s).opr = s.opr := rfl
@[simp] theorem raise_lstat (e : ErrCode) : (raise e s).lstat = s.lstat := rfl
@[simp] theorem raise_dcnt (e : ErrCode) : (raise e s).dcnt = s.dcnt := rfl
@[simp] theorem raise_ustate (e : ErrCode) : (raise e s).ustate = s.ustate := rfl
@[simp] theorem raise_hsst (e : ErrCode) : (raise e s).hsst = s.hsst := rfl
@[simp] theorem raise_hsp (e : ErrCode) : (raise e s).hsp = s.hsp := rfl
@[simp] theorem raise_uph (e : ErrCode) : (raise e s).uph = s.uph := rfl
@[simp] theorem raise_busy (e : ErrCode) : (raise e s).busy = s.busy := rfl
@[simp] theorem raise_hasData (e : ErrCode) : (raise e s).hasData = s.hasData := rfl
@[simp] theorem raise_errBits (e : ErrCode) : (raise e s).errBits = s.errBits ||| e.mask := rfl
@[simp] theorem raise_lastErr (e : ErrCode) : (raise e s).lastErr = some e := rfl
@[simp] theorem raise_tocnt (e : ErrCode) : (raise e s).tocnt = s.tocnt := rfl
@[simp] theorem raise_usercnt (e : ErrCode) : (raise e s).usercnt = s.usercnt := rfl
@[simp] theorem raise_lastrx (e : ErrCode) : (raise e s).lastrx = s.lastrx := rfl
@[simp] theorem raise_ack (e : ErrCode) : (raise e s).ack = s.ack := rfl
@[simp] theorem raise_rx (e : ErrCode) : (raise e s).rx = s.rx := rfl
@[simp] theorem raise_rxlen (e : ErrCode) : (raise e s).rxlen = s.rxlen := rfl
@[simp] theorem raise_xpend (e : ErrCode) : (raise e s).xpend = s.xpend := rfl
@[simp] theorem raise_atfb (e : ErrCode) : (raise e s).atfb = s.atfb := rfl
@[simp] theorem raise_trig (e : ErrCode) : (raise e s).trig = s.trig := rfl
@[simp] theorem raise_seq (e : ErrCode) : (raise e s).seq = s.seq := rfl
@[simp] theorem raise_xst (e : ErrCode) : (raise e s).xst = s.xst := rfl
@[simp] theorem raise_imgBroken (e : ErrCode) : (raise e s).imgBroken = s.imgBroken := rfl
@[simp] theorem raise_draws (e : ErrCode) : (raise e s).draws = s.draws := rfl
@[simp] theorem raise_params (e : ErrCode) : (raise e s).params = s.params := rfl
@[simp] theorem raise_ports (e : ErrCode) : (raise e s).ports = s.ports := rfl

/-! ## answer -/

@[simp] theorem answer_key (a : OpAnswer) : (answer a s).key = s.key := rfl
@[simp] theorem answer_csum (a : OpAnswer) : (answer a s).csum = s.csum := rfl
@[simp] theorem answer_localKey (a : OpAnswer) : (answer a s).localKey = s.localKey := rfl
@[simp] theorem answer_remoteKey (a : OpAnswer) : (answer a s).remoteKey = s.remoteKey := rfl
@[simp] theorem answer_cursor (a : OpAnswer) : (answer a s).cursor = s.cursor := rfl
@[simp] theorem answer_window (a : OpAnswer) : (answer a s).window = s.window := rfl
@[simp] theorem answer_imgLen (a : OpAnswer) : (answer a s).imgLen = s.imgLen := rfl
@[simp] theorem answer_opr (a : OpAnswer) : (answer a s).opr = s.opr := rfl
@[simp] theorem answer_lstat (a : OpAnswer) : (answer a s).lstat = s.lstat := rfl
@[simp] theorem answer_dcnt (a : OpAnswer) : (answer a s).dcnt = s.dcnt := rfl
@[simp] theorem answer_ustate (a : OpAnswer) : (answer a s).ustate = s.ustate := rfl
@[simp] theorem answer_hsst (a : OpAnswer) : (answer a s).hsst = s.hsst := rfl
@[simp] theorem answer_hsp (a : OpAnswer) : (answer a s).hsp = s.hsp := rfl
@[simp] theorem answer_uph (a : OpAnswer) : (answer a s).uph = s.uph := rfl
@[simp] theorem answer_busy (a : OpAnswer) : (answer a s).busy = s.busy := rfl
@[simp] theorem answer_hasData (a : OpAnswer) : (answer a s).hasData = s.hasData := rfl
@[simp] theorem answer_errBits (a : OpAnswer) : (answer a s).errBits = s.errBits := rfl
@[simp] theorem answer_lastErr (a : OpAnswer) : (answer a s).lastErr = s.lastErr := rfl
@[simp] theorem answer_tocnt (a : OpAnswer) : (answer a s).tocnt = s.tocnt := rfl
@[simp] theorem answer_usercnt (a : OpAnswer) : (answer a s).usercnt = s.usercnt := rfl
@[simp] theorem answer_lastrx (a : OpAnswer) : (answer a s).lastrx = s.lastrx := rfl
@[simp] theorem answer_ack (a : OpAnswer) : (answer a s).ack = s.ack := rfl
@[simp] theorem answer_rx (a : OpAnswer) : (answer a s).rx = s.rx := rfl
@[simp] theorem answer_rxlen (a : OpAnswer) : (answer a s).rxlen = s.rxlen := rfl
@[simp] theorem answer_xpend (a : OpAnswer) : (answer a s).xpend = s.xpend := rfl
@[simp] theorem answer_atfb (a : OpAnswer) : (answer a s).atfb = s.atfb := rfl
@[simp] theorem answer_trig (a : OpAnswer) : (answer a s).trig = s.trig := rfl
@[simp] theorem answer_seq (a : OpAnswer) : (answer a s).seq = s.seq := rfl
@[simp] theorem answer_xst (a : OpAnswer) : (answer a s).xst = s.xst := rfl
@[simp] theorem answer_imgBroken (a : OpAnswer) : (answer a s).imgBroken = s.imgBroken := rfl
@[simp] theorem answer_draws (a : OpAnswer) : (answer a s).draws = s.draws := rfl
@[simp] theorem answer_params (a : OpAnswer) : (answer a s).params = s.params := rfl
@[simp] theorem answer_ports (a : OpAnswer) : (answer a s).ports = { s.ports with opAnswer := a } := rfl

/-! ## accept -/

@[simp] theorem accept_key (v : Word) : (accept v s).key = s.key := rfl
@[simp] theorem accept_csum (v : Word) : (accept v s).csum = s.csum := rfl
@[simp] theorem accept_localKey (v : Word) : (accept v s).localKey = s.localKey := rfl
@[simp] theorem accept_remoteKey (v : Word) : (accept v s).remoteKey = s.remoteKey := rfl
@[simp] theorem accept_cursor (v : Word) : (accept v s).cursor = s.cursor := rfl
@[simp] theorem accept_window (v : Word) : (accept v s).window = s.window := rfl
@[simp] theorem accept_imgLen (v : Word) : (accept v s).imgLen = s.imgLen := rfl
@[simp] theorem accept_opr (v : Word) : (accept v s).opr = v := rfl
@[simp] theorem accept_lstat (v : Word) : (accept v s).lstat = s.lstat := rfl
@[simp] theorem accept_dcnt (v : Word) : (accept v s).dcnt = s.dcnt := rfl
@[simp] theorem accept_ustate (v : Word) : (accept v s).ustate = s.ustate := rfl
@[simp] theorem accept_hsst (v : Word) : (accept v s).hsst = s.hsst := rfl
@[simp] theorem accept_hsp (v : Word) : (accept v s).hsp = s.hsp := rfl
@[simp] theorem accept_uph (v : Word) : (accept v s).uph = s.uph := rfl
@[simp] theorem accept_busy (v : Word) : (accept v s).busy = s.busy := rfl
@[simp] theorem accept_hasData (v : Word) : (accept v s).hasData = s.hasData := rfl
@[simp] theorem accept_errBits (v : Word) : (accept v s).errBits = s.errBits := rfl
@[simp] theorem accept_lastErr (v : Word) : (accept v s).lastErr = s.lastErr := rfl
@[simp] theorem accept_tocnt (v : Word) : (accept v s).tocnt = s.tocnt := rfl
@[simp] theorem accept_usercnt (v : Word) : (accept v s).usercnt = s.usercnt := rfl
@[simp] theorem accept_lastrx (v : Word) : (accept v s).lastrx = s.lastrx := rfl
@[simp] theorem accept_ack (v : Word) : (accept v s).ack = s.ack := rfl
@[simp] theorem accept_rx (v : Word) : (accept v s).rx = s.rx := rfl
@[simp] theorem accept_rxlen (v : Word) : (accept v s).rxlen = s.rxlen := rfl
@[simp] theorem accept_xpend (v : Word) : (accept v s).xpend = s.xpend := rfl
@[simp] theorem accept_atfb (v : Word) : (accept v s).atfb = s.atfb := rfl
@[simp] theorem accept_trig (v : Word) : (accept v s).trig = s.trig := rfl
@[simp] theorem accept_seq (v : Word) : (accept v s).seq = s.seq := rfl
@[simp] theorem accept_xst (v : Word) : (accept v s).xst = s.xst := rfl
@[simp] theorem accept_imgBroken (v : Word) : (accept v s).imgBroken = s.imgBroken := rfl
@[simp] theorem accept_draws (v : Word) : (accept v s).draws = s.draws := rfl
@[simp] theorem accept_params (v : Word) : (accept v s).params = s.params := rfl
@[simp] theorem accept_ports (v : Word) : (accept v s).ports = { s.ports with opAnswer := .accepted } := rfl

/-! ## reject -/

@[simp] theorem reject_key (e : ErrCode) : (reject e s).key = s.key := rfl
@[simp] theorem reject_csum (e : ErrCode) : (reject e s).csum = s.csum := rfl
@[simp] theorem reject_localKey (e : ErrCode) : (reject e s).localKey = s.localKey := rfl
@[simp] theorem reject_remoteKey (e : ErrCode) : (reject e s).remoteKey = s.remoteKey := rfl
@[simp] theorem reject_cursor (e : ErrCode) : (reject e s).cursor = s.cursor := rfl
@[simp] theorem reject_window (e : ErrCode) : (reject e s).window = s.window := rfl
@[simp] theorem reject_imgLen (e : ErrCode) : (reject e s).imgLen = s.imgLen := rfl
@[simp] theorem reject_opr (e : ErrCode) : (reject e s).opr = s.opr := rfl
@[simp] theorem reject_lstat (e : ErrCode) : (reject e s).lstat = s.lstat := rfl
@[simp] theorem reject_dcnt (e : ErrCode) : (reject e s).dcnt = s.dcnt := rfl
@[simp] theorem reject_ustate (e : ErrCode) : (reject e s).ustate = s.ustate := rfl
@[simp] theorem reject_hsst (e : ErrCode) : (reject e s).hsst = s.hsst := rfl
@[simp] theorem reject_hsp (e : ErrCode) : (reject e s).hsp = s.hsp := rfl
@[simp] theorem reject_uph (e : ErrCode) : (reject e s).uph = s.uph := rfl
@[simp] theorem reject_busy (e : ErrCode) : (reject e s).busy = s.busy := rfl
@[simp] theorem reject_hasData (e : ErrCode) : (reject e s).hasData = s.hasData := rfl
@[simp] theorem reject_errBits (e : ErrCode) : (reject e s).errBits = s.errBits ||| e.mask := rfl
@[simp] theorem reject_lastErr (e : ErrCode) : (reject e s).lastErr = some e := rfl
@[simp] theorem reject_tocnt (e : ErrCode) : (reject e s).tocnt = s.tocnt := rfl
@[simp] theorem reject_usercnt (e : ErrCode) : (reject e s).usercnt = s.usercnt := rfl
@[simp] theorem reject_lastrx (e : ErrCode) : (reject e s).lastrx = s.lastrx := rfl
@[simp] theorem reject_ack (e : ErrCode) : (reject e s).ack = s.ack := rfl
@[simp] theorem reject_rx (e : ErrCode) : (reject e s).rx = s.rx := rfl
@[simp] theorem reject_rxlen (e : ErrCode) : (reject e s).rxlen = s.rxlen := rfl
@[simp] theorem reject_xpend (e : ErrCode) : (reject e s).xpend = s.xpend := rfl
@[simp] theorem reject_atfb (e : ErrCode) : (reject e s).atfb = s.atfb := rfl
@[simp] theorem reject_trig (e : ErrCode) : (reject e s).trig = s.trig := rfl
@[simp] theorem reject_seq (e : ErrCode) : (reject e s).seq = s.seq := rfl
@[simp] theorem reject_xst (e : ErrCode) : (reject e s).xst = s.xst := rfl
@[simp] theorem reject_imgBroken (e : ErrCode) : (reject e s).imgBroken = s.imgBroken := rfl
@[simp] theorem reject_draws (e : ErrCode) : (reject e s).draws = s.draws := rfl
@[simp] theorem reject_params (e : ErrCode) : (reject e s).params = s.params := rfl
@[simp] theorem reject_ports (e : ErrCode) : (reject e s).ports = { s.ports with opAnswer := .rejected } := rfl

/-! ## endFrame -/

@[simp] theorem endFrame_key : (endFrame s).key = s.key := rfl
@[simp] theorem endFrame_csum : (endFrame s).csum = s.csum := rfl
@[simp] theorem endFrame_localKey : (endFrame s).localKey = s.localKey := rfl
@[simp] theorem endFrame_remoteKey : (endFrame s).remoteKey = s.remoteKey := rfl
@[simp] theorem endFrame_cursor : (endFrame s).cursor = s.cursor := rfl
@[simp] theorem endFrame_window : (endFrame s).window = s.window := rfl
@[simp] theorem endFrame_imgLen : (endFrame s).imgLen = s.imgLen := rfl
@[simp] theorem endFrame_opr : (endFrame s).opr = s.opr := rfl
@[simp] theorem endFrame_lstat : (endFrame s).lstat = s.lstat := rfl
@[simp] theorem endFrame_dcnt : (endFrame s).dcnt = s.dcnt := rfl
@[simp] theorem endFrame_ustate : (endFrame s).ustate = s.ustate := rfl
@[simp] theorem endFrame_hsst : (endFrame s).hsst = s.hsst := rfl
@[simp] theorem endFrame_hsp : (endFrame s).hsp = s.hsp := rfl
@[simp] theorem endFrame_uph : (endFrame s).uph = s.uph := rfl
@[simp] theorem endFrame_busy : (endFrame s).busy = false := rfl
@[simp] theorem endFrame_hasData : (endFrame s).hasData = s.hasData := rfl
@[simp] theorem endFrame_errBits : (endFrame s).errBits = s.errBits := rfl
@[simp] theorem endFrame_lastErr : (endFrame s).lastErr = s.lastErr := rfl
@[simp] theorem endFrame_tocnt : (endFrame s).tocnt = s.tocnt := rfl
@[simp] theorem endFrame_usercnt : (endFrame s).usercnt = s.usercnt := rfl
@[simp] theorem endFrame_lastrx : (endFrame s).lastrx = s.lastrx := rfl
@[simp] theorem endFrame_ack : (endFrame s).ack = s.ack := rfl
@[simp] theorem endFrame_rx : (endFrame s).rx = s.rx := rfl
@[simp] theorem endFrame_rxlen : (endFrame s).rxlen = s.rxlen := rfl
@[simp] theorem endFrame_xpend : (endFrame s).xpend = s.xpend := rfl
@[simp] theorem endFrame_atfb : (endFrame s).atfb = true := rfl
@[simp] theorem endFrame_trig : (endFrame s).trig = s.trig := rfl
@[simp] theorem endFrame_seq : (endFrame s).seq = .none := rfl
@[simp] theorem endFrame_xst : (endFrame s).xst = s.xst := rfl
@[simp] theorem endFrame_imgBroken : (endFrame s).imgBroken = s.imgBroken := rfl
@[simp] theorem endFrame_draws : (endFrame s).draws = s.draws := rfl
@[simp] theorem endFrame_params : (endFrame s).params = s.params := rfl
@[simp] theorem endFrame_ports : (endFrame s).ports = s.ports := rfl

/-! ## goOn -/

@[simp] theorem goOn_key (n : SeqStep) : (goOn n s).key = s.key := rfl
@[simp] theorem goOn_csum (n : SeqStep) : (goOn n s).csum = s.csum := rfl
@[simp] theorem goOn_localKey (n : SeqStep) : (goOn n s).localKey = s.localKey := rfl
@[simp] theorem goOn_remoteKey (n : SeqStep) : (goOn n s).remoteKey = s.remoteKey := rfl
@[simp] theorem goOn_cursor (n : SeqStep) : (goOn n s).cursor = s.cursor := rfl
@[simp] theorem goOn_window (n : SeqStep) : (goOn n s).window = s.window := rfl
@[simp] theorem goOn_imgLen (n : SeqStep) : (goOn n s).imgLen = s.imgLen := rfl
@[simp] theorem goOn_opr (n : SeqStep) : (goOn n s).opr = s.opr := rfl
@[simp] theorem goOn_lstat (n : SeqStep) : (goOn n s).lstat = s.lstat := rfl
@[simp] theorem goOn_dcnt (n : SeqStep) : (goOn n s).dcnt = s.dcnt := rfl
@[simp] theorem goOn_ustate (n : SeqStep) : (goOn n s).ustate = s.ustate := rfl
@[simp] theorem goOn_hsst (n : SeqStep) : (goOn n s).hsst = s.hsst := rfl
@[simp] theorem goOn_hsp (n : SeqStep) : (goOn n s).hsp = s.hsp := rfl
@[simp] theorem goOn_uph (n : SeqStep) : (goOn n s).uph = s.uph := rfl
@[simp] theorem goOn_busy (n : SeqStep) : (goOn n s).busy = s.busy := rfl
@[simp] theorem goOn_hasData (n : SeqStep) : (goOn n s).hasData = s.hasData := rfl
@[simp] theorem goOn_errBits (n : SeqStep) : (goOn n s).errBits = s.errBits := rfl
@[simp] theorem goOn_lastErr (n : SeqStep) : (goOn n s).lastErr = s.lastErr := rfl
@[simp] theorem goOn_tocnt (n : SeqStep) : (goOn n s).tocnt = s.tocnt := rfl
@[simp] theorem goOn_usercnt (n : SeqStep) : (goOn n s).usercnt = s.usercnt := rfl
@[simp] theorem goOn_lastrx (n : SeqStep) : (goOn n s).lastrx = s.lastrx := rfl
@[simp] theorem goOn_ack (n : SeqStep) : (goOn n s).ack = s.ack := rfl
@[simp] theorem goOn_rx (n : SeqStep) : (goOn n s).rx = s.rx := rfl
@[simp] theorem goOn_rxlen (n : SeqStep) : (goOn n s).rxlen = s.rxlen := rfl
@[simp] theorem goOn_xpend (n : SeqStep) : (goOn n s).xpend = s.xpend := rfl
@[simp] theorem goOn_atfb (n : SeqStep) : (goOn n s).atfb = s.atfb := rfl
@[simp] theorem goOn_trig (n : SeqStep) : (goOn n s).trig = s.trig := rfl
@[simp] theorem goOn_seq (n : SeqStep) : (goOn n s).seq = n := rfl
@[simp] theorem goOn_xst (n : SeqStep) : (goOn n s).xst = s.xst := rfl
@[simp] theorem goOn_imgBroken (n : SeqStep) : (goOn n s).imgBroken = s.imgBroken := rfl
@[simp] theorem goOn_draws (n : SeqStep) : (goOn n s).draws = s.draws := rfl
@[simp] theorem goOn_params (n : SeqStep) : (goOn n s).params = s.params := rfl
@[simp] theorem goOn_ports (n : SeqStep) : (goOn n s).ports = s.ports := rfl

/-! ## enterPhase -/

@[simp] theorem enterPhase_key (p : UploadPhase) (n : SeqStep) : (enterPhase p n s).key = s.key := rfl
@[simp] theorem enterPhase_csum (p : UploadPhase) (n : SeqStep) : (enterPhase p n s).csum = s.csum := rfl
@[simp] theorem enterPhase_localKey (p : UploadPhase) (n : SeqStep) : (enterPhase p n s).localKey = s.localKey := rfl
@[simp] theorem enterPhase_remoteKey (p : UploadPhase) (n : SeqStep) : (enterPhase p n s).remoteKey = s.remoteKey := rfl
@[simp] theorem enterPhase_cursor (p : UploadPhase) (n : SeqStep) : (enterPhase p n s).cursor = s.cursor := rfl
@[simp] theorem enterPhase_window (p : UploadPhase) (n : SeqStep) : (enterPhase p n s).window = s.window := rfl
@[simp] theorem enterPhase_imgLen (p : UploadPhase) (n : SeqStep) : (enterPhase p n s).imgLen = s.imgLen := rfl
@[simp] theorem enterPhase_opr (p : UploadPhase) (n : SeqStep) : (enterPhase p n s).opr = s.opr := rfl
@[simp] theorem enterPhase_lstat (p : UploadPhase) (n : SeqStep) : (enterPhase p n s).lstat = s.lstat := rfl
@[simp] theorem enterPhase_dcnt (p : UploadPhase) (n : SeqStep) : (enterPhase p n s).dcnt = s.dcnt := rfl
@[simp] theorem enterPhase_ustate (p : UploadPhase) (n : SeqStep) : (enterPhase p n s).ustate = s.ustate := rfl
@[simp] theorem enterPhase_hsst (p : UploadPhase) (n : SeqStep) : (enterPhase p n s).hsst = s.hsst := rfl
@[simp] theorem enterPhase_hsp (p : UploadPhase) (n : SeqStep) : (enterPhase p n s).hsp = s.hsp := rfl
@[simp] theorem enterPhase_uph (p : UploadPhase) (n : SeqStep) : (enterPhase p n s).uph = p := rfl
@[simp] theorem enterPhase_busy (p : UploadPhase) (n : SeqStep) : (enterPhase p n s).busy = s.busy := rfl
@[simp] theorem enterPhase_hasData (p : UploadPhase) (n : SeqStep) : (enterPhase p n s).hasData = s.hasData := rfl
@[simp] theorem enterPhase_errBits (p : UploadPhase) (n : SeqStep) : (enterPhase p n s).errBits = s.errBits := rfl
@[simp] theorem enterPhase_lastErr (p : UploadPhase) (n : SeqStep) : (enterPhase p n s).lastErr = s.lastErr := rfl
@[simp] theorem enterPhase_tocnt (p : UploadPhase) (n : SeqStep) : (enterPhase p n s).tocnt = s.tocnt := rfl
@[simp] theorem enterPhase_usercnt (p : UploadPhase) (n : SeqStep) : (enterPhase p n s).usercnt = s.usercnt := rfl
@[simp] theorem enterPhase_lastrx (p : UploadPhase) (n : SeqStep) : (enterPhase p n s).lastrx = s.lastrx := rfl
@[simp] theorem enterPhase_ack (p : UploadPhase) (n : SeqStep) : (enterPhase p n s).ack = s.ack := rfl
@[simp] theorem enterPhase_rx (p : UploadPhase) (n : SeqStep) : (enterPhase p n s).rx = s.rx := rfl
@[simp] theorem enterPhase_rxlen (p : UploadPhase) (n : SeqStep) : (enterPhase p n s).rxlen = s.rxlen := rfl
@[simp] theorem enterPhase_xpend (p : UploadPhase) (n : SeqStep) : (enterPhase p n s).xpend = s.xpend := rfl
@[simp] theorem enterPhase_atfb (p : UploadPhase) (n : SeqStep) : (enterPhase p n s).atfb = s.atfb := rfl
@[simp] theorem enterPhase_trig (p : UploadPhase) (n : SeqStep) : (enterPhase p n s).trig = s.trig := rfl
@[simp] theorem enterPhase_seq (p : UploadPhase) (n : SeqStep) : (enterPhase p n s).seq = n := rfl
@[simp] theorem enterPhase_xst (p : UploadPhase) (n : SeqStep) : (enterPhase p n s).xst = s.xst := rfl
@[simp] theorem enterPhase_imgBroken (p : UploadPhase) (n : SeqStep) : (enterPhase p n s).imgBroken = s.imgBroken := rfl
@[simp] theorem enterPhase_draws (p : UploadPhase) (n : SeqStep) : (enterPhase p n s).draws = s.draws := rfl
@[simp] theorem enterPhase_params (p : UploadPhase) (n : SeqStep) : (enterPhase p n s).params = s.params := rfl
@[simp] theorem enterPhase_ports (p : UploadPhase) (n : SeqStep) : (enterPhase p n s).ports = s.ports := rfl

/-! ## drawn -/

@[simp] theorem drawn_key : (drawn s).key = s.key := rfl
@[simp] theorem drawn_csum : (drawn s).csum = s.csum := rfl
@[simp] theorem drawn_localKey : (drawn s).localKey = s.localKey := rfl
@[simp] theorem drawn_remoteKey : (drawn s).remoteKey = s.remoteKey := rfl
@[simp] theorem drawn_cursor : (drawn s).cursor = s.cursor := rfl
@[simp] theorem drawn_window : (drawn s).window = s.window := rfl
@[simp] theorem drawn_imgLen : (drawn s).imgLen = s.imgLen := rfl
@[simp] theorem drawn_opr : (drawn s).opr = s.opr := rfl
@[simp] theorem drawn_lstat : (drawn s).lstat = s.lstat := rfl
@[simp] theorem drawn_dcnt : (drawn s).dcnt = s.dcnt := rfl
@[simp] theorem drawn_ustate : (drawn s).ustate = s.ustate := rfl
@[simp] theorem drawn_hsst : (drawn s).hsst = s.hsst := rfl
@[simp] theorem drawn_hsp : (drawn s).hsp = s.hsp := rfl
@[simp] theorem drawn_uph : (drawn s).uph = s.uph := rfl
@[simp] theorem drawn_busy : (drawn s).busy = s.busy := rfl
@[simp] theorem drawn_hasData : (drawn s).hasData = s.hasData := rfl
@[simp] theorem drawn_errBits : (drawn s).errBits = s.errBits := rfl
@[simp] theorem drawn_lastErr : (drawn s).lastErr = s.lastErr := rfl
@[simp] theorem drawn_tocnt : (drawn s).tocnt = s.tocnt := rfl
@[simp] theorem drawn_usercnt : (drawn s).usercnt = s.usercnt := rfl
@[simp] theorem drawn_lastrx : (drawn s).lastrx = s.lastrx := rfl
@[simp] theorem drawn_ack : (drawn s).ack = s.ack := rfl
@[simp] theorem drawn_rx : (drawn s).rx = s.rx := rfl
@[simp] theorem drawn_rxlen : (drawn s).rxlen = s.rxlen := rfl
@[simp] theorem drawn_xpend : (drawn s).xpend = s.xpend := rfl
@[simp] theorem drawn_atfb : (drawn s).atfb = s.atfb := rfl
@[simp] theorem drawn_trig : (drawn s).trig = s.trig := rfl
@[simp] theorem drawn_seq : (drawn s).seq = s.seq := rfl
@[simp] theorem drawn_xst : (drawn s).xst = s.xst := rfl
@[simp] theorem drawn_imgBroken : (drawn s).imgBroken = s.imgBroken := rfl
@[simp] theorem drawn_draws : (drawn s).draws = s.draws + 1 := rfl
@[simp] theorem drawn_params : (drawn s).params = s.params := rfl
@[simp] theorem drawn_ports : (drawn s).ports = s.ports := rfl

/-! ## linkDrop -/

@[simp] theorem linkDrop_key : (linkDrop s).key = s.key := rfl
@[simp] theorem linkDrop_csum : (linkDrop s).csum = s.csum := rfl
@[simp] theorem linkDrop_localKey : (linkDrop s).localKey = s.localKey := rfl
@[simp] theorem linkDrop_remoteKey : (linkDrop s).remoteKey = s.remoteKey := rfl
@[simp] theorem linkDrop_cursor : (linkDrop s).cursor = s.cursor := rfl
@[simp] theorem linkDrop_window : (linkDrop s).window = s.window := rfl
@[simp] theorem linkDrop_imgLen : (linkDrop s).imgLen = s.imgLen := rfl
@[simp] theorem linkDrop_opr : (linkDrop s).opr = s.opr := rfl
@[simp] theorem linkDrop_lstat : (linkDrop s).lstat = .noPeer := rfl
@[simp] theorem linkDrop_dcnt : (linkDrop s).dcnt = 0#8 := rfl
@[simp] theorem linkDrop_ustate : (linkDrop s).ustate = s.ustate := rfl
@[simp] theorem linkDrop_hsst : (linkDrop s).hsst = s.hsst := rfl
@[simp] theorem linkDrop_hsp : (linkDrop s).hsp = s.hsp := rfl
@[simp] theorem linkDrop_uph : (linkDrop s).uph = s.uph := rfl
@[simp] theorem linkDrop_busy : (linkDrop s).busy = s.busy := rfl
@[simp] theorem linkDrop_hasData : (linkDrop s).hasData = s.hasData := rfl
@[simp] theorem linkDrop_errBits : (linkDrop s).errBits = s.errBits := rfl
@[simp] theorem linkDrop_lastErr : (linkDrop s).lastErr = s.lastErr := rfl
@[simp] theorem linkDrop_tocnt : (linkDrop s).tocnt = s.tocnt := rfl
@[simp] theorem linkDrop_usercnt : (linkDrop s).usercnt = s.usercnt := rfl
@[simp] theorem linkDrop_lastrx : (linkDrop s).lastrx = s.lastrx := rfl
@[simp] theorem linkDrop_ack : (linkDrop s).ack = s.ack := rfl
@[simp] theorem linkDrop_rx : (linkDrop s).rx = s.rx := rfl
@[simp] theorem linkDrop_rxlen : (linkDrop s).rxlen = s.rxlen := rfl
@[simp] theorem linkDrop_xpend : (linkDrop s).xpend = s.xpend := rfl
@[simp] theorem linkDrop_atfb : (linkDrop s).atfb = s.atfb := rfl
@[simp] theorem linkDrop_trig : (linkDrop s).trig = s.trig := rfl
@[simp] theorem linkDrop_seq : (linkDrop s).seq = s.seq := rfl
@[simp] theorem linkDrop_xst : (linkDrop s).xst = s.xst := rfl
@[simp] theorem linkDrop_imgBroken : (linkDrop s).imgBroken = s.imgBroken := rfl
@[simp] theorem linkDrop_draws : (linkDrop s).draws = s.draws := rfl
@[simp] theorem linkDrop_params : (linkDrop s).params = s.params := rfl
@[simp] theorem linkDrop_ports : (linkDrop s).ports = s.ports := rfl

/-! ## timeoutRecord -/

@[simp] theorem timeoutRecord_key : (timeoutRecord s).key = s.key := rfl
@[simp] theorem timeoutRecord_csum : (timeoutRecord s).csum = s.csum := rfl
@[simp] theorem timeoutRecord_localKey : (timeoutRecord s).localKey = s.localKey := rfl
@[simp] theorem timeoutRecord_remoteKey : (timeoutRecord s).remoteKey = s.remoteKey := rfl
@[simp] theorem timeoutRecord_cursor : (timeoutRecord s).cursor = s.cursor := rfl
@[simp] theorem timeoutRecord_window : (timeoutRecord s).window = s.window := rfl
@[simp] theorem timeoutRecord_imgLen : (timeoutRecord s).imgLen = s.imgLen := rfl
@[simp] theorem timeoutRecord_opr : (timeoutRecord s).opr = s.opr := rfl
@[simp] theorem timeoutRecord_lstat : (timeoutRecord s).lstat = s.lstat := rfl
@[simp] theorem timeoutRecord_dcnt : (timeoutRecord s).dcnt = s.dcnt := rfl
@[simp] theorem timeoutRecord_ustate : (timeoutRecord s).ustate = s.ustate := rfl
@[simp] theorem timeoutRecord_hsst : (timeoutRecord s).hsst = s.hsst := rfl
@[simp] theorem timeoutRecord_hsp : (timeoutRecord s).hsp = s.hsp := rfl
@[simp] theorem timeoutRecord_uph : (timeoutRecord s).uph = s.uph := rfl
@[simp] theorem timeoutRecord_busy : (timeoutRecord s).busy = s.busy := rfl
@[simp] theorem timeoutRecord_hasData : (timeoutRecord s).hasData = s.hasData := rfl
@[simp] theorem timeoutRecord_errBits : (timeoutRecord s).errBits = s.errBits ||| ErrCode.exchangeTimeout.mask := rfl
@[simp] theorem timeoutRecord_lastErr : (timeoutRecord s).lastErr = some .exchangeTimeout := rfl
@[simp] theorem timeoutRecord_tocnt : (timeoutRecord s).tocnt = s.tocnt + 1#32 := rfl
@[simp] theorem timeoutRecord_usercnt : (timeoutRecord s).usercnt = s.usercnt := rfl
@[simp] theorem timeoutRecord_lastrx : (timeoutRecord s).lastrx = s.lastrx := rfl
@[simp] theorem timeoutRecord_ack : (timeoutRecord s).ack = s.ack := rfl
@[simp] theorem timeoutRecord_rx : (timeoutRecord s).rx = s.rx := rfl
@[simp] theorem timeoutRecord_rxlen : (timeoutRecord s).rxlen = s.rxlen := rfl
@[simp] theorem timeoutRecord_xpend : (timeoutRecord s).xpend = s.xpend := rfl
@[simp] theorem timeoutRecord_atfb : (timeoutRecord s).atfb = s.atfb := rfl
@[simp] theorem timeoutRecord_trig : (timeoutRecord s).trig = s.trig := rfl
@[simp] theorem timeoutRecord_seq : (timeoutRecord s).seq = s.seq := rfl
@[simp] theorem timeoutRecord_xst : (timeoutRecord s).xst = s.xst := rfl
@[simp] theorem timeoutRecord_imgBroken : (timeoutRecord s).imgBroken = s.imgBroken := rfl
@[simp] theorem timeoutRecord_draws : (timeoutRecord s).draws = s.draws := rfl
@[simp] theorem timeoutRecord_params : (timeoutRecord s).params = s.params := rfl
@[simp] theorem timeoutRecord_ports : (timeoutRecord s).ports = s.ports := rfl

/-! ## issueRequest -/

@[simp] theorem issueRequest_key (tx : List Byte) (m : Nat) : (issueRequest tx m s).key = s.key := rfl
@[simp] theorem issueRequest_csum (tx : List Byte) (m : Nat) : (issueRequest tx m s).csum = s.csum := rfl
@[simp] theorem issueRequest_localKey (tx : List Byte) (m : Nat) : (issueRequest tx m s).localKey = s.localKey := rfl
@[simp] theorem issueRequest_remoteKey (tx : List Byte) (m : Nat) : (issueRequest tx m s).remoteKey = s.remoteKey := rfl
@[simp] theorem issueRequest_cursor (tx : List Byte) (m : Nat) : (issueRequest tx m s).cursor = s.cursor := rfl
@[simp] theorem issueRequest_window (tx : List Byte) (m : Nat) : (issueRequest tx m s).window = s.window := rfl
@[simp] theorem issueRequest_imgLen (tx : List Byte) (m : Nat) : (issueRequest tx m s).imgLen = s.imgLen := rfl
@[simp] theorem issueRequest_opr (tx : List Byte) (m : Nat) : (issueRequest tx m s).opr = s.opr := rfl
@[simp] theorem issueRequest_lstat (tx : List Byte) (m : Nat) : (issueRequest tx m s).lstat = s.lstat := rfl
@[simp] theorem issueRequest_dcnt (tx : List Byte) (m : Nat) : (issueRequest tx m s).dcnt = s.dcnt := rfl
@[simp] theorem issueRequest_ustate (tx : List Byte) (m : Nat) : (issueRequest tx m s).ustate = s.ustate := rfl
@[simp] theorem issueRequest_hsst (tx : List Byte) (m : Nat) : (issueRequest tx m s).hsst = s.hsst := rfl
@[simp] theorem issueRequest_hsp (tx : List Byte) (m : Nat) : (issueRequest tx m s).hsp = s.hsp := rfl
@[simp] theorem issueRequest_uph (tx : List Byte) (m : Nat) : (issueRequest tx m s).uph = s.uph := rfl
@[simp] theorem issueRequest_busy (tx : List Byte) (m : Nat) : (issueRequest tx m s).busy = s.busy := rfl
@[simp] theorem issueRequest_hasData (tx : List Byte) (m : Nat) : (issueRequest tx m s).hasData = s.hasData := rfl
@[simp] theorem issueRequest_errBits (tx : List Byte) (m : Nat) : (issueRequest tx m s).errBits = s.errBits := rfl
@[simp] theorem issueRequest_lastErr (tx : List Byte) (m : Nat) : (issueRequest tx m s).lastErr = s.lastErr := rfl
@[simp] theorem issueRequest_tocnt (tx : List Byte) (m : Nat) : (issueRequest tx m s).tocnt = s.tocnt := rfl
@[simp] theorem issueRequest_usercnt (tx : List Byte) (m : Nat) : (issueRequest tx m s).usercnt = s.usercnt := rfl
@[simp] theorem issueRequest_lastrx (tx : List Byte) (m : Nat) : (issueRequest tx m s).lastrx = s.lastrx := rfl
@[simp] theorem issueRequest_ack (tx : List Byte) (m : Nat) : (issueRequest tx m s).ack = s.ack := rfl
@[simp] theorem issueRequest_rx (tx : List Byte) (m : Nat) : (issueRequest tx m s).rx = s.rx := rfl
@[simp] theorem issueRequest_rxlen (tx : List Byte) (m : Nat) : (issueRequest tx m s).rxlen = s.rxlen := rfl
@[simp] theorem issueRequest_xpend (tx : List Byte) (m : Nat) : (issueRequest tx m s).xpend = true := rfl
@[simp] theorem issueRequest_atfb (tx : List Byte) (m : Nat) : (issueRequest tx m s).atfb = s.atfb := rfl
@[simp] theorem issueRequest_trig (tx : List Byte) (m : Nat) : (issueRequest tx m s).trig = s.trig := rfl
@[simp] theorem issueRequest_seq (tx : List Byte) (m : Nat) : (issueRequest tx m s).seq = s.seq := rfl
@[simp] theorem issueRequest_xst (tx : List Byte) (m : Nat) : (issueRequest tx m s).xst = s.xst := rfl
@[simp] theorem issueRequest_imgBroken (tx : List Byte) (m : Nat) : (issueRequest tx m s).imgBroken = s.imgBroken := rfl
@[simp] theorem issueRequest_draws (tx : List Byte) (m : Nat) : (issueRequest tx m s).draws = s.draws := rfl
@[simp] theorem issueRequest_params (tx : List Byte) (m : Nat) : (issueRequest tx m s).params = s.params := rfl
@[simp] theorem issueRequest_ports (tx : List Byte) (m : Nat) : (issueRequest tx m s).ports = { s.ports with requests := ⟨tx, m, s.params.xchgTimeout⟩ :: s.ports.requests } := rfl

/-! ## startHandshake -/

@[simp] theorem startHandshake_key : (startHandshake s).key = s.key := rfl
@[simp] theorem startHandshake_csum : (startHandshake s).csum = s.csum := rfl
@[simp] theorem startHandshake_localKey : (startHandshake s).localKey = s.localKey := rfl
@[simp] theorem startHandshake_remoteKey : (startHandshake s).remoteKey = s.remoteKey := rfl
@[simp] theorem startHandshake_cursor : (startHandshake s).cursor = s.cursor := rfl
@[simp] theorem startHandshake_window : (startHandshake s).window = s.window := rfl
@[simp] theorem startHandshake_imgLen : (startHandshake s).imgLen = s.imgLen := rfl
@[simp] theorem startHandshake_opr : (startHandshake s).opr = s.opr := rfl
@[simp] theorem startHandshake_lstat : (startHandshake s).lstat = s.lstat := rfl
@[simp] theorem startHandshake_dcnt : (startHandshake s).dcnt = s.dcnt := rfl
@[simp] theorem startHandshake_ustate : (startHandshake s).ustate = s.ustate := rfl
@[simp] theorem startHandshake_hsst : (startHandshake s).hsst = .awaitingBios := rfl
@[simp] theorem startHandshake_hsp : (startHandshake s).hsp = false := rfl
@[simp] theorem startHandshake_uph : (startHandshake s).uph = s.uph := rfl
@[simp] theorem startHandshake_busy : (startHandshake s).busy = s.busy := rfl
@[simp] theorem startHandshake_hasData : (startHandshake s).hasData = s.hasData := rfl
@[simp] theorem startHandshake_errBits : (startHandshake s).errBits = s.errBits := rfl
@[simp] theorem startHandshake_lastErr : (startHandshake s).lastErr = s.lastErr := rfl
@[simp] theorem startHandshake_tocnt : (startHandshake s).tocnt = s.tocnt := rfl
@[simp] theorem startHandshake_usercnt : (startHandshake s).usercnt = s.usercnt := rfl
@[simp] theorem startHandshake_lastrx : (startHandshake s).lastrx = s.lastrx := rfl
@[simp] theorem startHandshake_ack : (startHandshake s).ack = s.ack := rfl
@[simp] theorem startHandshake_rx : (startHandshake s).rx = s.rx := rfl
@[simp] theorem startHandshake_rxlen : (startHandshake s).rxlen = s.rxlen := rfl
@[simp] theorem startHandshake_xpend : (startHandshake s).xpend = s.xpend := rfl
@[simp] theorem startHandshake_atfb : (startHandshake s).atfb = s.atfb := rfl
@[simp] theorem startHandshake_trig : (startHandshake s).trig = s.trig := rfl
@[simp] theorem startHandshake_seq : (startHandshake s).seq = s.seq := rfl
@[simp] theorem startHandshake_xst : (startHandshake s).xst = s.xst := rfl
@[simp] theorem startHandshake_imgBroken : (startHandshake s).imgBroken = s.imgBroken := rfl
@[simp] theorem startHandshake_draws : (startHandshake s).draws = s.draws := rfl
@[simp] theorem startHandshake_params : (startHandshake s).params = s.params := rfl
@[simp] theorem startHandshake_ports : (startHandshake s).ports = s.ports := rfl

/-! ## beginIteration -/

@[simp] theorem beginIteration_key : (beginIteration s).key = s.key := rfl
@[simp] theorem beginIteration_csum : (beginIteration s).csum = s.csum := rfl
@[simp] theorem beginIteration_localKey : (beginIteration s).localKey = s.localKey := rfl
@[simp] theorem beginIteration_remoteKey : (beginIteration s).remoteKey = s.remoteKey := rfl
@[simp] theorem beginIteration_cursor : (beginIteration s).cursor = s.cursor := rfl
@[simp] theorem beginIteration_window : (beginIteration s).window = s.window := rfl
@[simp] theorem beginIteration_imgLen : (beginIteration s).imgLen = s.imgLen := rfl
@[simp] theorem beginIteration_opr : (beginIteration s).opr = s.opr := rfl
@[simp] theorem beginIteration_lstat : (beginIteration s).lstat = s.lstat := rfl
@[simp] theorem beginIteration_dcnt : (beginIteration s).dcnt = s.dcnt := rfl
@[simp] theorem beginIteration_ustate : (beginIteration s).ustate = s.ustate := rfl
@[simp] theorem beginIteration_hsst : (beginIteration s).hsst = s.hsst := rfl
@[simp] theorem beginIteration_hsp : (beginIteration s).hsp = false := rfl
@[simp] theorem beginIteration_uph : (beginIteration s).uph = s.uph := rfl
@[simp] theorem beginIteration_busy : (beginIteration s).busy = s.busy := rfl
@[simp] theorem beginIteration_hasData : (beginIteration s).hasData = s.hasData := rfl
@[simp] theorem beginIteration_errBits : (beginIteration s).errBits = s.errBits := rfl
@[simp] theorem beginIteration_lastErr : (beginIteration s).lastErr = s.lastErr := rfl
@[simp] theorem beginIteration_tocnt : (beginIteration s).tocnt = s.tocnt := rfl
@[simp] theorem beginIteration_usercnt : (beginIteration s).usercnt = s.usercnt := rfl
@[simp] theorem beginIteration_lastrx : (beginIteration s).lastrx = s.lastrx := rfl
@[simp] theorem beginIteration_ack : (beginIteration s).ack = s.ack := rfl
@[simp] theorem beginIteration_rx : (beginIteration s).rx = s.rx := rfl
@[simp] theorem beginIteration_rxlen : (beginIteration s).rxlen = s.rxlen := rfl
@[simp] theorem beginIteration_xpend : (beginIteration s).xpend = s.xpend := rfl
@[simp] theorem beginIteration_atfb : (beginIteration s).atfb = s.atfb := rfl
@[simp] theorem beginIteration_trig : (beginIteration s).trig = s.trig := rfl
@[simp] theorem beginIteration_seq : (beginIteration s).seq = .hsReset := rfl
@[simp] theorem beginIteration_xst : (beginIteration s).xst = s.xst := rfl
@[simp] theorem beginIteration_imgBroken : (beginIteration s).imgBroken = s.imgBroken := rfl
@[simp] theorem beginIteration_draws : (beginIteration s).draws = s.draws := rfl
@[simp] theorem beginIteration_params : (beginIteration s).params = s.params := rfl
@[simp] theorem beginIteration_ports : (beginIteration s).ports = s.ports := rfl

/-! ## takeInput -/

@[simp] theorem takeInput_key : (takeInput s).key = s.key := rfl
@[simp] theorem takeInput_csum : (takeInput s).csum = s.csum := rfl
@[simp] theorem takeInput_localKey : (takeInput s).localKey = s.localKey := rfl
@[simp] theorem takeInput_remoteKey : (takeInput s).remoteKey = s.remoteKey := rfl
@[simp] theorem takeInput_cursor : (takeInput s).cursor = s.cursor := rfl
@[simp] theorem takeInput_window : (takeInput s).window = s.window := rfl
@[simp] theorem takeInput_imgLen : (takeInput s).imgLen = s.imgLen := rfl
@[simp] theorem takeInput_opr : (takeInput s).opr = s.opr := rfl
@[simp] theorem takeInput_lstat : (takeInput s).lstat = s.lstat := rfl
@[simp] theorem takeInput_dcnt : (takeInput s).dcnt = s.dcnt := rfl
@[simp] theorem takeInput_ustate : (takeInput s).ustate = s.ustate := rfl
@[simp] theorem takeInput_hsst : (takeInput s).hsst = s.hsst := rfl
@[simp] theorem takeInput_hsp : (takeInput s).hsp = s.hsp := rfl
@[simp] theorem takeInput_uph : (takeInput s).uph = s.uph := rfl
@[simp] theorem takeInput_busy : (takeInput s).busy = s.busy := rfl
@[simp] theorem takeInput_hasData : (takeInput s).hasData = s.hasData := rfl
@[simp] theorem takeInput_errBits : (takeInput s).errBits = s.errBits := rfl
@[simp] theorem takeInput_lastErr : (takeInput s).lastErr = s.lastErr := rfl
@[simp] theorem takeInput_tocnt : (takeInput s).tocnt = s.tocnt := rfl
@[simp] theorem takeInput_usercnt : (takeInput s).usercnt = s.usercnt := rfl
@[simp] theorem takeInput_lastrx : (takeInput s).lastrx = s.lastrx := rfl
@[simp] theorem takeInput_ack : (takeInput s).ack = s.ack := rfl
@[simp] theorem takeInput_rx : (takeInput s).rx = s.rx := rfl
@[simp] theorem takeInput_rxlen : (takeInput s).rxlen = s.rxlen := rfl
@[simp] theorem takeInput_xpend : (takeInput s).xpend = s.xpend := rfl
@[simp] theorem takeInput_atfb : (takeInput s).atfb = s.atfb := rfl
@[simp] theorem takeInput_trig : (takeInput s).trig = s.trig := rfl
@[simp] theorem takeInput_seq : (takeInput s).seq = s.seq := rfl
@[simp] theorem takeInput_xst : (takeInput s).xst = s.xst := rfl
@[simp] theorem takeInput_imgBroken : (takeInput s).imgBroken = s.imgBroken := rfl
@[simp] theorem takeInput_draws : (takeInput s).draws = s.draws := rfl
@[simp] theorem takeInput_params : (takeInput s).params = s.params := rfl
@[simp] theorem takeInput_ports : (takeInput s).ports = { s.ports with inputs := s.ports.inputs.tail } := rfl

end Sys2Proof.Machine
end

