-- ==== Sys2Proof/Laws/Ops.lean ====
section
/-! SUPPORT. One lemma for each shared operation that says what it can do: the checks of the operation port, the exchange,
the probe. -/

namespace Sys2Proof.Machine

/-! ## OPBLOCKED and the operation port -/

/-- What OPBLOCKED says, spelled out (R97). -/
theorem opBlocked_eq_true_iff (s : State) :
    opBlocked s = true ↔ s.busy = true ∨ s.hsst = .awaitingBios ∨ uploadActive s = true := by
  simp [opBlocked, or_assoc]

/-- No operation is blocked in the state after reset (R382). -/
theorem opBlocked_reset : opBlocked State.reset = false := rfl

/-- An operation that is not blocked has its effect. -/
theorem unlessBlocked_of_free {s : State} (h : opBlocked s = false) (f : State → State) :
    unlessBlocked s f = .next (f s) := by simp [unlessBlocked, h]

/-- A blocked operation is refused with OpBusy. -/
theorem unlessBlocked_of_blocked {s : State} (h : opBlocked s = true) (f : State → State) :
    unlessBlocked s f = .next (reject .opBusy s) := by simp [unlessBlocked, h]

/-- Everything `unlessBlocked` can answer. -/
theorem unlessBlocked_next {s t : State} {f : State → State} (h : unlessBlocked s f = .next t) :
    (opBlocked s = true ∧ t = reject .opBusy s) ∨ (opBlocked s = false ∧ t = f s) := by
  cases hb : opBlocked s <;> simp [unlessBlocked, hb] at h <;> simp [h]

/-! ## Exchange -/

/-- Everything an exchange can answer. -/
theorem exchange_next {tx : List Byte} {m : Nat} {s t : State} (h : exchange tx m s = .next t) :
    replyFits m s = true ∧ t = exchanged tx m s := by
  cases hf : replyFits m s <;> simp [exchange, hf] at h ⊢
  exact h.symm

/-- An exchange stops exactly on a scripted reply of another length. -/
theorem exchange_fault {tx : List Byte} {m : Nat} {s : State} {r : Fault} (h : exchange tx m s = .fault r) :
    r = .replyLength ∧ ∃ bs rest, s.ports.replies = .ok bs :: rest ∧ bs.length ≠ m := by
  cases hf : replyFits m s with
  | true => simp [exchange, hf] at h
  | false =>
    simp only [exchange, hf, Bool.false_eq_true, if_false, Host.Outcome.fault.injEq] at h
    refine ⟨h.symm, ?_⟩
    cases hr : s.ports.replies with
    | nil => simp [replyFits, hr] at hf
    | cons r rest =>
      cases r with
      | ok bs => exact ⟨bs, rest, rfl, by simpa [replyFits, hr, Reply.fits] using hf⟩
      | timeout z => simp [replyFits, hr, Reply.fits] at hf

/-- The state after an exchange that the environment answers with bytes. -/
theorem exchanged_of_reply {tx : List Byte} {m : Nat} {s : State} {bs : List Byte} {rest : List Reply}
    (h : s.ports.replies = .ok bs :: rest) :
    exchanged tx m s =
      { s with xpend := false, rxlen := BitVec.ofNat 3 m, xst := .ok, rx := s.rx.fill m fun i old => bs.getD i old,
               ports := { s.ports with requests := ⟨tx, m, s.params.xchgTimeout⟩ :: s.ports.requests, replies := rest } } := by
  simp [exchanged, nextReply, issueRequest, takeResponse, takeReply, h]

/-- The state after an exchange that times out. -/
theorem exchanged_of_timeout {tx : List Byte} {m : Nat} {s : State} {z : BitVec 5} {rest : List Reply}
    (h : s.ports.replies = .timeout z :: rest) :
    exchanged tx m s =
      { s with xpend := false, rxlen := BitVec.ofNat 3 m, xst := .timedOut, rx := s.rx.fill m (rxFill z),
               errBits := s.errBits ||| ErrCode.exchangeTimeout.mask, lastErr := some .exchangeTimeout,
               tocnt := s.tocnt + 1#32,
               ports := { s.ports with requests := ⟨tx, m, s.params.xchgTimeout⟩ :: s.ports.requests, replies := rest } } := by
  simp [exchanged, nextReply, issueRequest, takeResponse, takeTimeout, timeoutRecord, raise, h]

/-- The state after an exchange for which nothing is scripted: the effect of a free response that fits. -/
theorem exchanged_of_none {tx : List Byte} {m : Nat} {s : State} (h : s.ports.replies = []) :
    exchanged tx m s =
      takeResponse m (freeReply s.draws m) { issueRequest tx m s with draws := s.draws + 1 } := by
  simp [exchanged, nextReply, issueRequest, h]

/-- Whatever the response, an exchange leaves these fields alone. -/
theorem exchanged_frame (tx : List Byte) (m : Nat) (s : State) :
    let t := exchanged tx m s
    t.key = s.key ∧ t.csum = s.csum ∧ t.localKey = s.localKey ∧ t.remoteKey = s.remoteKey ∧ t.cursor = s.cursor
      ∧ t.window = s.window ∧ t.imgLen = s.imgLen ∧ t.opr = s.opr ∧ t.lstat = s.lstat ∧ t.dcnt = s.dcnt
      ∧ t.ustate = s.ustate ∧ t.hsst = s.hsst ∧ t.hsp = s.hsp ∧ t.uph = s.uph ∧ t.busy = s.busy
      ∧ t.hasData = s.hasData ∧ t.usercnt = s.usercnt ∧ t.lastrx = s.lastrx ∧ t.ack = s.ack ∧ t.atfb = s.atfb
      ∧ t.trig = s.trig ∧ t.seq = s.seq ∧ t.imgBroken = s.imgBroken ∧ t.params = s.params
      ∧ t.ports.image = s.ports.image ∧ t.ports.imgLen = s.ports.imgLen ∧ t.ports.inputs = s.ports.inputs
      ∧ t.ports.probes = s.ports.probes ∧ t.ports.opAnswer = s.ports.opAnswer
      ∧ t.ports.probeCount = s.ports.probeCount
      ∧ t.ports.requests = ⟨tx, m, s.params.xchgTimeout⟩ :: s.ports.requests ∧ t.xpend = false
      ∧ t.rxlen = BitVec.ofNat 3 m := by
  cases hr : s.ports.replies with
  | nil =>
    rw [exchanged_of_none hr]
    cases freeReply s.draws m <;>
      simp [takeResponse, takeReply, takeTimeout, timeoutRecord, raise, issueRequest]
  | cons r rest =>
    cases r with
    | ok bs => rw [exchanged_of_reply hr]; simp
    | timeout z => rw [exchanged_of_timeout hr]; simp

/-- An exchange takes one scripted response, if there is one (R385). -/
theorem exchanged_replies (tx : List Byte) (m : Nat) (s : State) :
    (exchanged tx m s).ports.replies = s.ports.replies.tail := by
  cases hr : s.ports.replies with
  | nil =>
    rw [exchanged_of_none hr]
    cases freeReply s.draws m <;>
      simp [takeResponse, takeReply, takeTimeout, timeoutRecord, raise, issueRequest, hr]
  | cons r rest =>
    cases r with
    | ok bs => rw [exchanged_of_reply hr]; simp
    | timeout z => rw [exchanged_of_timeout hr]; simp

/-- A response either is OK and records no error, or is a timeout and records ExchangeTimeout (R320, R327). -/
theorem exchanged_status (tx : List Byte) (m : Nat) (s : State) :
    let t := exchanged tx m s
    (t.xst = .ok ∧ t.errBits = s.errBits ∧ t.lastErr = s.lastErr ∧ t.tocnt = s.tocnt)
    ∨ (t.xst = .timedOut ∧ t.errBits = s.errBits ||| ErrCode.exchangeTimeout.mask
        ∧ t.lastErr = some .exchangeTimeout ∧ t.tocnt = s.tocnt + 1#32) := by
  cases hr : s.ports.replies with
  | nil =>
    rw [exchanged_of_none hr]
    cases freeReply s.draws m <;>
      simp [takeResponse, takeReply, takeTimeout, timeoutRecord, raise, issueRequest]
  | cons r rest =>
    cases r with
    | ok bs => rw [exchanged_of_reply hr]; simp
    | timeout z => rw [exchanged_of_timeout hr]; simp

/-! ## Probe -/

/-- The probe takes the next scripted word and leaves nothing in flight (R325). -/
theorem probe_of_scripted {s : State} {p : Word} {rest : List Word} (h : s.ports.probes = p :: rest) :
    probe s = (p, { s with xpend := false, ports := { s.ports with probeCount := s.ports.probeCount + 1,
                                                                   probes := rest } }) := by
  simp [probe, nextProbe, issueProbe, h]

/-- With nothing scripted the probe word is free. -/
theorem probe_of_none {s : State} (h : s.ports.probes = []) :
    probe s = (Config.freeProbe s.draws,
      { s with xpend := false, draws := s.draws + 1,
               ports := { s.ports with probeCount := s.ports.probeCount + 1 } }) := by
  simp [probe, nextProbe, issueProbe, h]

end Sys2Proof.Machine
end

