-- ==== Sys2Proof/Laws/PerInstr.lean ====
section
/-! SUPPORT. The family OpcodeRow: each instruction's first byte is its row's match under the row's mask in
spec/opcode_table.json, and its encoding is as long as R99 says. -/

namespace Sys2Proof.Laws

/-- The match and the mask of an instruction's row. -/
def row : Instr → Nat × Nat
  | .nop => (0x00, 0xFF)
  | .csumInit => (0x01, 0xFF)
  | .csumFold _ => (0x02, 0xFF)
  | .csumFinal _ => (0x03, 0xFF)
  | .kdf _ => (0x04, 0xFF)
  | .rkey _ => (0x05, 0xFF)
  | .kseed => (0x06, 0xFF)
  | .kadv => (0x07, 0xFF)
  | .mask _ _ => (0x08, 0xFF)
  | .crypt _ _ => (0x09, 0xFF)
  | .imgrd _ => (0x0A, 0xFF)
  | .payw _ => (0x0B, 0xFF)
  | .sealCsum _ _ => (0x0C, 0xFF)
  | .lpoll _ => (0x0D, 0xFF)
  | .ldrop => (0x0E, 0xFF)
  | .reservedOpcF => (0x0F, 0xFF)
  | .reservedMbz1 _ => (0x10, 0xF0)
  | .reservedMbz2 _ => (0x20, 0xF0)
  | .reservedMbz3 _ => (0x30, 0xF0)
  | .reservedMbz4 _ => (0x40, 0xF0)
  | .reservedMbz5 _ => (0x50, 0xF0)
  | .reservedMbz6 _ => (0x60, 0xF0)
  | .reservedMbz7 _ => (0x70, 0xF0)
  | .reservedMbz8 _ => (0x80, 0xF0)
  | .reservedMbz9 _ => (0x90, 0xF0)
  | .reservedMbzA _ => (0xA0, 0xF0)
  | .reservedMbzB _ => (0xB0, 0xF0)
  | .reservedMbzC _ => (0xC0, 0xF0)
  | .reservedMbzD _ => (0xD0, 0xF0)
  | .reservedMbzE _ => (0xE0, 0xF0)
  | .reservedMbzF _ => (0xF0, 0xF0)
  | .wireReset => (0xFF, 0xFF)
  | .wireStatus => (0x00, 0xFF)
  | .wireRead => (0x14, 0xFF)
  | .wireWrite _ => (0x15, 0xFF)

/-- The number of bytes of an encoding (R99): a triple is one byte and two operands. -/
def encodedLength : Instr → Nat
  | .nop => 9
  | .csumInit => 9
  | .csumFold _ => 9
  | .csumFinal _ => 9
  | .kdf _ => 9
  | .rkey _ => 9
  | .kseed => 9
  | .kadv => 9
  | .mask _ _ => 9
  | .crypt _ _ => 9
  | .imgrd _ => 9
  | .payw _ => 9
  | .sealCsum _ _ => 9
  | .lpoll _ => 9
  | .ldrop => 9
  | .reservedOpcF => 9
  | .reservedMbz1 _ => 9
  | .reservedMbz2 _ => 9
  | .reservedMbz3 _ => 9
  | .reservedMbz4 _ => 9
  | .reservedMbz5 _ => 9
  | .reservedMbz6 _ => 9
  | .reservedMbz7 _ => 9
  | .reservedMbz8 _ => 9
  | .reservedMbz9 _ => 9
  | .reservedMbzA _ => 9
  | .reservedMbzB _ => 9
  | .reservedMbzC _ => 9
  | .reservedMbzD _ => 9
  | .reservedMbzE _ => 9
  | .reservedMbzF _ => 9
  | .wireReset => 1
  | .wireStatus => 1
  | .wireRead => 1
  | .wireWrite _ => 5

/-- The first byte lies in the instruction's row, and the length is R99's. -/
def OpcodeRow.Statement (i : Instr) : Prop :=
  ((encode i).headD 0#8).toNat &&& (row i).2 = (row i).1 ∧ (encode i).length = encodedLength i

namespace OpcodeRow

/-- Every code under an OPW[7:4] keeps OPW[7:4]. -/
theorem reserved_row (mbz opc : BitVec 4) : (mbz ++ opc).toNat &&& 0xF0 = mbz.toNat * 16 := by
  revert mbz opc
  decide

theorem nop : Statement .nop := ⟨show (0x00#8).toNat &&& 0xFF = 0x00 from rfl, rfl⟩
theorem csumInit : Statement .csumInit := ⟨show (0x01#8).toNat &&& 0xFF = 0x01 from rfl, rfl⟩
theorem csumFold (w : Word) : Statement (.csumFold w) := ⟨show (0x02#8).toNat &&& 0xFF = 0x02 from rfl, rfl⟩
theorem csumFinal (len : Word) : Statement (.csumFinal len) := ⟨show (0x03#8).toNat &&& 0xFF = 0x03 from rfl, rfl⟩
theorem kdf (window : Word) : Statement (.kdf window) := ⟨show (0x04#8).toNat &&& 0xFF = 0x04 from rfl, rfl⟩
theorem rkey (rw : Word) : Statement (.rkey rw) := ⟨show (0x05#8).toNat &&& 0xFF = 0x05 from rfl, rfl⟩
theorem kseed : Statement .kseed := ⟨show (0x06#8).toNat &&& 0xFF = 0x06 from rfl, rfl⟩
theorem kadv : Statement .kadv := ⟨show (0x07#8).toNat &&& 0xFF = 0x07 from rfl, rfl⟩
theorem mask (o : Word) (w : Word) : Statement (.mask o w) := ⟨show (0x08#8).toNat &&& 0xFF = 0x08 from rfl, rfl⟩
theorem crypt (o : Word) (w : Word) : Statement (.crypt o w) := ⟨show (0x09#8).toNat &&& 0xFF = 0x09 from rfl, rfl⟩
theorem imgrd (o : Word) : Statement (.imgrd o) := ⟨show (0x0A#8).toNat &&& 0xFF = 0x0A from rfl, rfl⟩
theorem payw (o : Word) : Statement (.payw o) := ⟨show (0x0B#8).toNat &&& 0xFF = 0x0B from rfl, rfl⟩
theorem sealCsum (len : Word) (o : Word) : Statement (.sealCsum len o) := ⟨show (0x0C#8).toNat &&& 0xFF = 0x0C from rfl, rfl⟩
theorem lpoll (p : Word) : Statement (.lpoll p) := ⟨show (0x0D#8).toNat &&& 0xFF = 0x0D from rfl, rfl⟩
theorem ldrop : Statement .ldrop := ⟨show (0x0E#8).toNat &&& 0xFF = 0x0E from rfl, rfl⟩
theorem reservedOpcF : Statement .reservedOpcF := ⟨show (0x0F#8).toNat &&& 0xFF = 0x0F from rfl, rfl⟩
theorem reservedMbz1 (opc : BitVec 4) : Statement (.reservedMbz1 opc) := ⟨reserved_row _ opc, rfl⟩
theorem reservedMbz2 (opc : BitVec 4) : Statement (.reservedMbz2 opc) := ⟨reserved_row _ opc, rfl⟩
theorem reservedMbz3 (opc : BitVec 4) : Statement (.reservedMbz3 opc) := ⟨reserved_row _ opc, rfl⟩
theorem reservedMbz4 (opc : BitVec 4) : Statement (.reservedMbz4 opc) := ⟨reserved_row _ opc, rfl⟩
theorem reservedMbz5 (opc : BitVec 4) : Statement (.reservedMbz5 opc) := ⟨reserved_row _ opc, rfl⟩
theorem reservedMbz6 (opc : BitVec 4) : Statement (.reservedMbz6 opc) := ⟨reserved_row _ opc, rfl⟩
theorem reservedMbz7 (opc : BitVec 4) : Statement (.reservedMbz7 opc) := ⟨reserved_row _ opc, rfl⟩
theorem reservedMbz8 (opc : BitVec 4) : Statement (.reservedMbz8 opc) := ⟨reserved_row _ opc, rfl⟩
theorem reservedMbz9 (opc : BitVec 4) : Statement (.reservedMbz9 opc) := ⟨reserved_row _ opc, rfl⟩
theorem reservedMbzA (opc : BitVec 4) : Statement (.reservedMbzA opc) := ⟨reserved_row _ opc, rfl⟩
theorem reservedMbzB (opc : BitVec 4) : Statement (.reservedMbzB opc) := ⟨reserved_row _ opc, rfl⟩
theorem reservedMbzC (opc : BitVec 4) : Statement (.reservedMbzC opc) := ⟨reserved_row _ opc, rfl⟩
theorem reservedMbzD (opc : BitVec 4) : Statement (.reservedMbzD opc) := ⟨reserved_row _ opc, rfl⟩
theorem reservedMbzE (opc : BitVec 4) : Statement (.reservedMbzE opc) := ⟨reserved_row _ opc, rfl⟩
theorem reservedMbzF (opc : BitVec 4) : Statement (.reservedMbzF opc) := ⟨reserved_row _ opc, rfl⟩
theorem wireReset : Statement .wireReset := ⟨show (0xFF#8).toNat &&& 0xFF = 0xFF from rfl, rfl⟩
theorem wireStatus : Statement .wireStatus := ⟨show (0x00#8).toNat &&& 0xFF = 0x00 from rfl, rfl⟩
theorem wireRead : Statement .wireRead := ⟨show (0x14#8).toNat &&& 0xFF = 0x14 from rfl, rfl⟩
theorem wireWrite (v : Word) : Statement (.wireWrite v) := ⟨show (0x15#8).toNat &&& 0xFF = 0x15 from rfl, rfl⟩

end OpcodeRow

end Sys2Proof.Laws
end

