-- ==== Sys2Proof/Laws/Step.lean ====
section
/-! SUPPORT. What a step can do: one equation per input, one equation for every exchange of a frame action, and the case
split of a step that answers a next state. -/

namespace Sys2Proof.Machine

/-- The number of reply bytes that the exchange of a sequencer step expects (R91, R253). -/
def replyLenOf : SeqStep → Nat
  | .none => 0
  | .probe => 0
  | .hsReset => 3
  | .hsStatus => 3
  | .remoteKey => 5
  | .localKey => 1
  | .header => 1
  | .payload => 1
  | .trailer => 1
  | .ack => 5
  | .idleRead => 5
  | .idleWrite => 1

/-- A sequencer step that is an exchange. -/
def isExchange (q : SeqStep) : Prop := q ≠ .none ∧ q ≠ .probe

/-- The bytes of a wire frame that starts with 0x15 and has four value bytes run the Write exchange of those bytes. -/
theorem runBytes_write (b0 b1 b2 b3 : Byte) (s : State) :
    runBytes .wire [0x15#8, b0, b1, b2, b3] s = exchange [0x15#8, b0, b1, b2, b3] 1 s := by
  simp [runBytes, exec, execWireWrite]

theorem runBytes_writeFrame (v : Word) (s : State) : runBytes .wire (writeFrame v) s = exchange (writeFrame v) 1 s := by
  simp [runBytes, exec, execWireWrite]

theorem runBytes_reset (s : State) : runBytes .wire [0xFF#8] s = exchange [0xFF#8] 3 s := rfl
theorem runBytes_status (s : State) : runBytes .wire [0x00#8] s = exchange [0x00#8] 3 s := rfl
theorem runBytes_read (s : State) : runBytes .wire [0x14#8] s = exchange [0x14#8] 5 s := rfl

/-- A presented operation runs the instruction of its triple. -/
theorem runBytes_op (t : OpTriple) (s : State) : runBytes .op t.bytes s = exec (decodeTriple t) s := by
  simp [runBytes]

/-- The frame that an exchange step sends is the exchange it runs: nothing is refused. -/
theorem runBytes_prepare {s : State} (h : isExchange s.seq) :
    runBytes .wire (prepare s).2 (prepare s).1 = exchange (prepare s).2 (replyLenOf s.seq) (prepare s).1 := by
  obtain ⟨h1, h2⟩ := h
  cases hq : s.seq with
  | none => exact absurd hq h1
  | probe => exact absurd hq h2
  | hsReset => simp [prepare, hq, replyLenOf, runBytes_reset]
  | hsStatus => simp [prepare, hq, replyLenOf, runBytes_status]
  | remoteKey => simp [prepare, hq, replyLenOf, runBytes_read]
  | localKey =>
    cases hb : s.imgBroken <;>
      simp [prepare, hq, replyLenOf, prepareLocalKey, hb, localKeyFrame, runBytes_write, runBytes_writeFrame]
  | header =>
    cases hb : s.imgBroken <;>
      simp [prepare, hq, replyLenOf, prepareHeader, hb, headerFrame, runBytes_write, runBytes_writeFrame]
  | payload => cases hb : s.imgBroken <;> simp [prepare, hq, replyLenOf, preparePayload, hb, runBytes_writeFrame]
  | trailer => cases hb : s.imgBroken <;> simp [prepare, hq, replyLenOf, prepareTrailer, hb, runBytes_writeFrame]
  | ack => simp [prepare, hq, replyLenOf, runBytes_read]
  | idleRead => simp [prepare, hq, replyLenOf, runBytes_read]
  | idleWrite => simp [prepare, hq, replyLenOf, runBytes_writeFrame]

/-- An exchange of a frame action, in one equation. -/
theorem exchangeStep_eq {s : State} (h : isExchange s.seq) :
    exchangeStep s =
      if replyFits (replyLenOf s.seq) (prepare s).1 then
        .next (resume s.seq (exchanged (prepare s).2 (replyLenOf s.seq) (prepare s).1))
      else .fault .replyLength := by
  rw [exchangeStep, runBytes_prepare h, exchange]
  by_cases hf : replyFits (replyLenOf s.seq) (prepare s).1 = true
  · simp only [hf, if_true]
  · simp only [hf]
    rfl

/-- What precedes an exchange leaves the ports alone. -/
theorem prepare_ports (s : State) : (prepare s).1.ports = s.ports := by
  cases hq : s.seq with
  | header => cases hb : s.imgBroken <;> simp [prepare, hq, prepareHeader, hb]
  | payload => cases hb : s.imgBroken <;> simp [prepare, hq, preparePayload, hb]
  | trailer => cases hb : s.imgBroken <;> simp [prepare, hq, prepareTrailer, hb]
  | localKey => cases hb : s.imgBroken <;> simp [prepare, hq, prepareLocalKey, hb]
  | _ => simp [prepare, hq]

/-- What precedes an exchange leaves the parameters alone. -/
theorem prepare_params (s : State) : (prepare s).1.params = s.params := by
  cases hq : s.seq with
  | header => cases hb : s.imgBroken <;> simp [prepare, hq, prepareHeader, hb]
  | payload => cases hb : s.imgBroken <;> simp [prepare, hq, preparePayload, hb]
  | trailer => cases hb : s.imgBroken <;> simp [prepare, hq, prepareTrailer, hb]
  | localKey => cases hb : s.imgBroken <;> simp [prepare, hq, prepareLocalKey, hb]
  | _ => simp [prepare, hq]

/-- Which responses are scripted does not depend on what precedes the exchange. -/
theorem replyFits_prepare (m : Nat) (s : State) : replyFits m (prepare s).1 = replyFits m s := by
  simp only [replyFits, prepare_ports]

/-- The machine's own step. -/
theorem advance_eq (s : State) :
    advance s =
      if s.seq = .none then .next s
      else if s.seq = .probe then .next (probeStep s)
      else exchangeStep s := by
  cases hq : s.seq <;> simp [advance, hq]

/-! ## One equation per input -/

theorem step_of_nil {s : State} (h : s.ports.inputs = []) : step s = advance s := by simp [step, h]

theorem step_of_quiet {s : State} {rest : List Input} (h : s.ports.inputs = .quiet :: rest) :
    step s = advance (takeInput s) := by simp [step, h]

theorem step_of_op {s : State} {t : OpTriple} {rest : List Input} (h : s.ports.inputs = .op t :: rest) :
    step s = exec (decodeTriple t) (takeInput s) := by simp [step, h, runBytes_op]

theorem step_of_frame {s : State} {l : Triggers} {rest : List Input} (h : s.ports.inputs = .frame l :: rest) :
    step s = .next (frameTick l (takeInput s)) := by simp [step, h]

theorem step_of_reset {s : State} {rest : List Input} (h : s.ports.inputs = .reset :: rest) :
    step s = .next (resetAll (takeInput s)) := by simp [step, h]

/-- A frame action's exchange, when nothing arrives before it. -/
theorem step_of_exchange {s : State} (h : s.ports.inputs = []) (hx : isExchange s.seq)
    (hf : replyFits (replyLenOf s.seq) s = true) :
    step s = .next (resume s.seq (exchanged (prepare s).2 (replyLenOf s.seq) (prepare s).1)) := by
  rw [step_of_nil h, advance_eq, if_neg hx.1, if_neg hx.2, exchangeStep_eq hx, replyFits_prepare, if_pos hf]

/-- A probe word changes LSTAT and DCNT alone, and looks at them and at the parameters only (R222 to R226). -/
theorem linkUpdate_eq (p : Word) {s t : State} (h1 : t.lstat = s.lstat) (h2 : t.dcnt = s.dcnt)
    (h3 : t.params = s.params) :
    linkUpdate p t = { t with lstat := (linkUpdate p s).lstat, dcnt := (linkUpdate p s).dcnt } := by
  unfold linkUpdate
  rw [h3]
  split
  · simp [h1, h2]
  · simp
  · simp [← h1, ← h2, ← h3]
  · simp

/-- A probe word leaves the parameters alone. -/
@[simp] theorem linkUpdate_params (p : Word) (s : State) : (linkUpdate p s).params = s.params := by
  rw [linkUpdate_eq p (s := s) rfl rfl rfl]

/-- A frame action's probe, when nothing arrives before it and a probe word is scripted (R291). -/
theorem step_of_probe {s : State} {p : Word} {ps : List Word} (h : s.ports.inputs = []) (hq : s.seq = .probe)
    (hp : s.ports.probes = p :: ps) :
    step s = .next (stateAction
      { s with lstat := (linkUpdate p s).lstat, dcnt := (linkUpdate p s).dcnt, xpend := false,
               ports := { s.ports with probeCount := s.ports.probeCount + 1, probes := ps } }) := by
  rw [step_of_nil h, advance_eq, if_neg (by simp [hq]), if_pos hq]
  simp only [probeStep, probe_of_scripted hp]
  rw [linkUpdate_eq p (s := s)
    (t := { s with xpend := false, ports := { s.ports with probeCount := s.ports.probeCount + 1, probes := ps } })
    rfl rfl rfl]

/-! ## Several steps -/

theorem runSteps_zero (s : State) : runSteps 0 s = .next s := rfl

theorem runSteps_succ {s t : State} (h : step s = .next t) (n : Nat) : runSteps (n + 1) s = runSteps n t := by
  simp only [runSteps, h]

/-- A run in two parts. -/
theorem runSteps_add {s t : State} {m : Nat} (h : runSteps m s = .next t) (n : Nat) :
    runSteps (m + n) s = runSteps n t := by
  induction m generalizing s with
  | zero => rw [runSteps_zero] at h; cases h; rw [Nat.zero_add]
  | succ m ih =>
    have e : m + 1 + n = m + n + 1 := by omega
    rw [e, runSteps]
    rw [runSteps] at h
    cases hs : step s with
    | next u => rw [hs] at h; exact ih h
    | fault r => rw [hs] at h; cases h
    | refused r => rw [hs] at h; cases h

/-- The first of several scripted replies fits its exchange, and the others the exchanges after it. -/
theorem repliesFit_cons {m : Nat} {ms : List Nat} {s : State} (h : repliesFit (m :: ms) s.ports.replies = true) :
    replyFits m s = true ∧ repliesFit ms s.ports.replies.tail = true := by
  unfold replyFits
  cases hr : s.ports.replies with
  | nil => cases ms <;> simp [repliesFit]
  | cons r rs => rw [hr] at h; simpa [repliesFit] using h

/-- The interval of R388, spelled out. -/
theorem imageHeld_eq_true_iff (s : State) : imageHeld s = true ↔ ImageHeld s := by
  unfold imageHeld ImageHeld startSampled uploadActive
  cases s.uph <;> simp [and_assoc]

/-- If no timeout of the next exchanges aborts an upload, then neither does this one, nor one of those after it (R263). -/
theorem noAbort_exchanged {k : Nat} {s : State} (h : NoAbort (k + 1) s) (tx : List Byte) (m : Nat) :
    transferAborts (exchanged tx m s) = false ∧ NoAbort k (exchanged tx m s) := by
  have hp : (exchanged tx m s).params = s.params := by simp [exchanged_frame tx m s]
  rcases h with h | h
  · exact ⟨by simp [transferAborts, hp, h], .inl (by rw [hp, h])⟩
  · cases hr : s.ports.replies with
    | nil => simp [repliesOk, hr] at h
    | cons r rest =>
      cases r with
      | ok bs =>
        refine ⟨by rw [exchanged_of_reply hr]; simp [transferAborts], .inr ?_⟩
        rw [exchanged_replies, hr]
        simpa [repliesOk, hr] using h
      | timeout z => simp [repliesOk, hr] at h

/-! ## Every step -/

/-- Everything a step that answers a next state can have done. -/
theorem step_next_cases {s t : State} (h : step s = .next t) :
    (∃ u, (s.ports.inputs = [] ∧ u = s ∨ (∃ rest, s.ports.inputs = .quiet :: rest) ∧ u = takeInput s)
        ∧ ((u.seq = .none ∧ t = u) ∨ (u.seq = .probe ∧ t = probeStep u)
          ∨ (isExchange u.seq ∧ replyFits (replyLenOf u.seq) u = true
              ∧ t = resume u.seq (exchanged (prepare u).2 (replyLenOf u.seq) (prepare u).1))))
    ∨ (∃ o rest, s.ports.inputs = .op o :: rest ∧ exec (decodeTriple o) (takeInput s) = .next t)
    ∨ (∃ l rest, s.ports.inputs = .frame l :: rest ∧ t = frameTick l (takeInput s))
    ∨ (∃ rest, s.ports.inputs = .reset :: rest ∧ t = resetAll (takeInput s))
    ∨ (∃ n rest, s.ports.inputs = .imageLen n :: rest ∧ t = setImageLen n (takeInput s))
    ∨ (∃ a b rest, s.ports.inputs = .imageByte a b :: rest ∧ t = setImageByte a b (takeInput s)) := by
  have own : ∀ u, advance u = .next t →
      (u.seq = .none ∧ t = u) ∨ (u.seq = .probe ∧ t = probeStep u)
        ∨ (isExchange u.seq ∧ replyFits (replyLenOf u.seq) u = true
            ∧ t = resume u.seq (exchanged (prepare u).2 (replyLenOf u.seq) (prepare u).1)) := by
    intro u hu
    rw [advance_eq] at hu
    by_cases h0 : u.seq = .none
    · simp [h0] at hu; exact .inl ⟨h0, hu.symm⟩
    · by_cases h1 : u.seq = .probe
      · simp [h1] at hu; exact .inr (.inl ⟨h1, hu.symm⟩)
      · simp only [h0, h1, if_false] at hu
        rw [exchangeStep_eq ⟨h0, h1⟩, replyFits_prepare] at hu
        by_cases hf : replyFits (replyLenOf u.seq) u = true
        · simp only [hf, if_true, Host.Outcome.next.injEq] at hu
          exact .inr (.inr ⟨⟨h0, h1⟩, hf, hu.symm⟩)
        · simp [hf] at hu
  cases hi : s.ports.inputs with
  | nil => rw [step_of_nil hi] at h; exact .inl ⟨s, .inl ⟨rfl, rfl⟩, own s h⟩
  | cons i rest =>
    cases i with
    | quiet => rw [step_of_quiet hi] at h; exact .inl ⟨takeInput s, .inr ⟨⟨rest, rfl⟩, rfl⟩, own _ h⟩
    | op o => rw [step_of_op hi] at h; exact .inr (.inl ⟨o, rest, rfl, h⟩)
    | frame l => simp [step, hi] at h; exact .inr (.inr (.inl ⟨l, rest, rfl, h.symm⟩))
    | reset => simp [step, hi] at h; exact .inr (.inr (.inr (.inl ⟨rest, rfl, h.symm⟩)))
    | imageLen n => simp [step, hi] at h; exact .inr (.inr (.inr (.inr (.inl ⟨n, rest, rfl, h.symm⟩))))
    | imageByte a b => simp [step, hi] at h; exact .inr (.inr (.inr (.inr (.inr ⟨a, b, rest, rfl, h.symm⟩))))
    | response r => simp [step, hi] at h

end Sys2Proof.Machine
end

