-- ==== Sys2Proof/Tests/Slice0.lean ====
section
/-! SUPPORT. Tests. The expected values are those of 95_test_vectors.md, of the examples in the rules, or of the encoding
tables of 30_encoding.md; the section of each group names the source. The last part shows, for each statement with
hypotheses, a state and operands that meet them. -/

namespace Sys2Proof.Tests

open Sys2Proof.Machine

/-! ## Helpers -/

/-- A view of the next state, none if there is none. -/
def got {α : Type} (f : State → α) : Result → Option α
  | .next t => some (f t)
  | .fault _ => none
  | .refused _ => none

/-- The instruction that was decoded, none if the bytes were rejected. -/
def read : Except DecodeError Instr → Option Instr
  | .ok i => some i
  | .error _ => none

/-- Why the bytes were rejected. -/
def rejected : Except DecodeError Instr → Option DecodeError
  | .ok _ => none
  | .error e => some e

def withInputs (is : List Input) (s : State) : State := { s with ports := { s.ports with inputs := is } }
def withReplies (rs : List Reply) (s : State) : State := { s with ports := { s.ports with replies := rs } }
def withProbes (ps : List Word) (s : State) : State := { s with ports := { s.ports with probes := ps } }

/-- The reset state with an image of a given length. -/
def withImage (n : Word) (m : Memory) : State :=
  { State.reset with ports := { State.reset.ports with imgLen := n, image := m } }

/-- Right after the start of a frame action of a session state, with a link state and a probe word to come. -/
def acting (u : UploadState) (l : LinkStatus) (d : Byte) (p : Word) : State :=
  withProbes [p] { State.reset with ustate := u, lstat := l, dcnt := d, seq := .probe, busy := true, atfb := false }

/-- In an upload on a Connected link, with an exchange of one of its steps next. -/
def uploading (u : UploadPhase) (q : SeqStep) : State :=
  { State.reset with ustate := .peerReady, hsst := .ready, lstat := .connected, dcnt := 60, uph := u, seq := q,
                     busy := true, atfb := false, window := 0x200, imgLen := 0x200 }

/-- In Idle on a Connected link, with an exchange next. -/
def idling (q : SeqStep) : State :=
  { State.reset with ustate := .idle, hsst := .ready, lstat := .connected, dcnt := 60, seq := q, busy := true,
                     atfb := false }

/-- In a handshake of WaitingForPeer on a Connected link, with an exchange next. -/
def shaking (q : SeqStep) : State :=
  { State.reset with hsst := .awaitingBios, lstat := .connected, dcnt := 60, seq := q, busy := true, atfb := false }

/-- Waiting for the acknowledgement of an upload of a given length. -/
def withImageAtAck (n : Word) : State :=
  { uploading .ack .ack with ports := (withImage n []).ports }

def startOnly : Triggers := { Triggers.off with start := true }

/-! ## WellFormed: an ill-formed term for each check -/

theorem test_wellFormed_triple : OpTriple.wellFormed ⟨0x08, 0xC0, 0x1⟩ = true := by decide
theorem test_illFormed_reserved_code : OpTriple.wellFormed ⟨0x0F, 0, 0⟩ = false := by decide
theorem test_illFormed_high_bits : OpTriple.wellFormed ⟨0x12, 0, 0⟩ = false := by decide
theorem test_illFormed_unused_opa : OpTriple.wellFormed ⟨0x01, 1, 0⟩ = false := by decide
theorem test_illFormed_unused_opb : OpTriple.wellFormed ⟨0x02, 1, 1⟩ = false := by decide
theorem test_illFormed_request_command : Request.wellFormed ⟨[0x16], 3, 5⟩ = false := by decide
theorem test_illFormed_request_reply_length : Request.wellFormed ⟨[0x14], 3, 5⟩ = false := by decide
theorem test_illFormed_request_length : Request.wellFormed ⟨[0x15, 1, 2], 1, 5⟩ = false := by decide
theorem test_illFormed_reply : Reply.fits 3 (.ok [0, 0]) = false := by decide
theorem test_illFormed_memory_order : Memory.wf [(4, 1), (4, 2)] = false := by decide
theorem test_illFormed_memory_value : Memory.wf [(4, 0)] = false := by decide

/-! ## Decoding: words written out from R96, R98 and R91 -/

theorem test_decode_nop : read (decode .op [0x00, 0, 0, 0, 0, 0, 0, 0, 0]) = some .nop := by decide
theorem test_decode_csumInit : read (decode .op [0x01, 0, 0, 0, 0, 0, 0, 0, 0]) = some .csumInit := by decide
theorem test_decode_csumFold :
    read (decode .op [0x02, 0x78, 0x56, 0x34, 0x12, 0, 0, 0, 0]) = some (.csumFold 0x12345678) := by decide
theorem test_decode_csumFinal :
    read (decode .op [0x03, 0x00, 0x02, 0, 0, 0, 0, 0, 0]) = some (.csumFinal 0x200) := by decide
theorem test_decode_kdf : read (decode .op [0x04, 0x00, 0x02, 0, 0, 0, 0, 0, 0]) = some (.kdf 0x200) := by decide
theorem test_decode_rkey :
    read (decode .op [0x05, 0x11, 0x22, 0x33, 0x44, 0, 0, 0, 0]) = some (.rkey 0x44332211) := by decide
theorem test_decode_kseed : read (decode .op [0x06, 0, 0, 0, 0, 0, 0, 0, 0]) = some .kseed := by decide
theorem test_decode_kadv : read (decode .op [0x07, 0, 0, 0, 0, 0, 0, 0, 0]) = some .kadv := by decide
theorem test_decode_mask :
    read (decode .op [0x08, 0xC0, 0, 0, 0, 0x01, 0, 0, 0]) = some (.mask 0xC0 0x1) := by decide
theorem test_decode_crypt :
    read (decode .op [0x09, 0xC0, 0, 0, 0, 0x17, 0x57, 0x68, 0x0B]) = some (.crypt 0xC0 0x0B685717) := by decide
theorem test_decode_imgrd : read (decode .op [0x0A, 0xF8, 0x01, 0, 0, 0, 0, 0, 0]) = some (.imgrd 0x1F8) := by decide
theorem test_decode_payw : read (decode .op [0x0B, 0xC4, 0, 0, 0, 0, 0, 0, 0]) = some (.payw 0xC4) := by decide
theorem test_decode_seal :
    read (decode .op [0x0C, 0xFC, 0x01, 0, 0, 0x00, 0x02, 0, 0]) = some (.sealCsum 0x1FC 0x200) := by decide
theorem test_decode_lpoll :
    read (decode .op [0x0D, 0, 0, 0x04, 0, 0, 0, 0, 0]) = some (.lpoll 0x00040000) := by decide
theorem test_decode_ldrop : read (decode .op [0x0E, 0, 0, 0, 0, 0, 0, 0, 0]) = some .ldrop := by decide
theorem test_decode_ignores_unused_operands :
    read (decode .op [0x0E, 1, 2, 3, 4, 5, 6, 7, 8]) = some .ldrop := by decide
theorem test_decode_reservedOpcF : read (decode .op [0x0F, 0, 0, 0, 0, 0, 0, 0, 0]) = some .reservedOpcF := by decide
theorem test_decode_reserved_1_to_8 :
    [0x10, 0x2F, 0x35, 0x48, 0x50, 0x6F, 0x71, 0x8E].map (fun w : Byte => decodeTriple ⟨w, 0, 0⟩)
      = [.reservedMbz1 0, .reservedMbz2 0xF, .reservedMbz3 5, .reservedMbz4 8, .reservedMbz5 0, .reservedMbz6 0xF,
         .reservedMbz7 1, .reservedMbz8 0xE] := by decide
theorem test_decode_reserved_9_to_F :
    [0x9F, 0xA0, 0xB7, 0xCD, 0xD1, 0xE0, 0xFF].map (fun w : Byte => decodeTriple ⟨w, 0, 0⟩)
      = [.reservedMbz9 0xF, .reservedMbzA 0, .reservedMbzB 7, .reservedMbzC 0xD, .reservedMbzD 1, .reservedMbzE 0,
         .reservedMbzF 0xF] := by decide
theorem test_decode_wireReset : read (decode .wire [0xFF]) = some .wireReset := by decide
theorem test_decode_wireStatus : read (decode .wire [0x00]) = some .wireStatus := by decide
theorem test_decode_wireRead : read (decode .wire [0x14]) = some .wireRead := by decide
theorem test_decode_wireWrite :
    read (decode .wire [0x15, 0x78, 0x56, 0x34, 0x12]) = some (.wireWrite 0x12345678) := by decide
theorem test_decode_rejects_an_unknown_command : rejected (decode .wire [0x16]) = some .notACommand := by decide
theorem test_decode_rejects_a_short_write : rejected (decode .wire [0x15, 1, 2, 3]) = some .frameLength := by decide
theorem test_decode_rejects_a_long_read : rejected (decode .wire [0x14, 0]) = some .frameLength := by decide
theorem test_decode_rejects_a_short_operation : rejected (decode .op [0x01]) = some .opLength := by decide
theorem test_tableWord_of_each_kind :
    [decodeTableWord 8 0x02, decodeTableWord 8 0x1A, decodeTableWord 8 0xFF, decodeTableWord 8 0x15,
     decodeTableWord 72 0x0000000200000001FC0C]
      = [some (.csumFold 0), some (.reservedMbz1 0xA), some .wireReset, some (.wireWrite 0), some (.sealCsum 0x1FC 0x200)] := by
  decide

/-! ## Assembly (95_test_vectors.md 2.10, R101, R102) -/

theorem test_assemble_mask : assembleLine "MASK 0xC0, 0x1".toList = some [⟨0x08, 0xC0, 0x1⟩] := by decide
theorem test_assemble_comment : assembleLine "RKEY 0x44332211 ; key".toList = some [⟨0x05, 0x44332211, 0⟩] := by decide
theorem test_assemble_pseudo : assembleLine "DECRYPT 0xC0, 0x0B685717".toList = some [⟨0x09, 0xC0, 0x0B685717⟩] := by
  decide
theorem test_assemble_session_open :
    assembleLine "SESSION.OPEN 512, 0x1".toList
      = some [⟨0x04, 0x200, 0⟩, ⟨0x05, 0x1, 0⟩, ⟨0x06, 0, 0⟩, ⟨0x01, 0, 0⟩] := by decide
theorem test_assemble_word : assembleLine ".word 0x1F".toList = some [⟨0x1F, 0, 0⟩] := by decide
theorem test_assemble_rejects_an_unknown_mnemonic : assembleLine "JUMP 0x1".toList = none := by decide

/-! ## Operations, one step each (95_test_vectors.md 2.1 to 2.4, 2.6, 2.7, 2.9) -/

theorem test_nop_while_busy :
    got (fun t => (t.ports.opAnswer, errWord t, t.opr)) (exec .nop { State.reset with busy := true })
      = some (.accepted, 0, 0) := by decide
theorem test_csumInit :
    got (fun t => (t.csum, t.opr)) (exec .csumInit { State.reset with csum := 0x0200743F }) = some (0x15A0, 0x15A0) := by
  decide
theorem test_csumFold_1 :
    got (fun t => (t.csum, t.opr)) (exec (.csumFold 1) State.reset) = some (0x493B, 0x493B) := by decide +kernel
theorem test_csumFold_values :
    [0x00000000, 0xFFFFFFFF, 0x80000000, 0x12345678, 0xDEADBEEF].map (fold Config.defaults 0x15A0)
        = [0x8613, 0x0275, 0x27D2, 0x690C, 0x76E1]
      ∧ fold Config.defaults 0xFFFFFFFF 0 = 0x8466 := by decide +kernel
theorem test_csumFinal_drops_the_high_half :
    got (fun t => (t.csum, t.opr)) (exec (.csumFinal 0x12340200) { State.reset with csum := 0x743F })
      = some (0x0200743F, 0x0200743F) := by decide
theorem test_csumFinal_ors :
    got (·.csum) (exec (.csumFinal 0x1FC) { State.reset with csum := 0x0200743F }) = some 0x03FC743F := by decide
theorem test_kdf_values :
    [0x208, 0x278, 0x600, 0xA00, 0x20200, 0x40200, 0xFFFFFFF8, 0x204].map (deriveLocalKey Config.defaults)
        = [0xCAE1CFD9, 0xC4E1CFD9, 0xCBE0CFD8, 0xF3E7DCD5, 0xCBE1CED8, 0xCBE1CFD9, 0xCC9ADDD7, 0xCBE1CFD9]
      ∧ [0x208, 0x278, 0x40000, 0xFFFFFFF8].map (deriveLocalKey { Config.defaults with kdfSumSelf := true })
        = [0xCAE1CFD8, 0xC4E1CFA6, 0xB39ADD97, 0xCC9ADD98] := by decide
theorem test_kdf_window_too_small :
    got (fun t => (errWord t, t.localKey, t.opr)) (exec (.kdf 0x1FF) State.reset) = some (0x00050010, 0, 0) := by decide
theorem test_rkey :
    got (fun t => (t.remoteKey, t.opr)) (exec (.rkey 0x44332211) State.reset) = some (0x2B574762, 0x2B574762) := by decide
theorem test_rkey_parameter :
    got (·.remoteKey)
      (exec (.rkey 0xFFFFFFFF) { State.reset with params := { Config.defaults with remoteKeyXor := 0x7365646F } })
      = some 0x8C9A9B90 := by decide
/-- R8, 93 item 1: a literal is a parameter, so another value of it gives the rule's result with that value. -/
theorem test_literals_are_parameters :
    got (fun t => (t.key, t.opr))
      (exec .kadv { State.reset with key := 7, params := { Config.defaults with lcgMul := 3, lcgInc := 2 } }) = some (23, 23)
    ∧ got (fun t => (t.csum, t.params.csumSeed))
      (step (withInputs [.reset] { State.reset with params := { Config.defaults with csumSeed := 0x1234 } }))
      = some (0x1234, 0x1234) := by decide
theorem test_kseed :
    got (fun t => (t.key, t.opr)) (exec .kseed { State.reset with remoteKey := 0x2B574762 })
      = some (0x2B574762, 0x2B574762) := by decide
theorem test_kadv :
    got (fun t => (t.key, t.opr)) (exec .kadv { State.reset with key := 0x12345678 })
      = some (0xD3E0CD29, 0xD3E0CD29) := by decide
theorem test_mask_keeps_the_key :
    got (fun t => (t.key, t.opr)) (exec (.mask 0xC0 0) { State.reset with key := 0x152C0BB7 })
      = some (0x152C0BB7, 0xC8AA96D7) := by decide
theorem test_mask_values :
    let d := Config.defaults
    cipherMask d 0x12345678 0xC0 = 0xCFB2CB18 ∧ cipherMask d 0xFFFFFFFF 0x200 = 0x227963DF
      ∧ cipherMask d 0x6177614B 0xC4 = 0xBCF1FC57 ∧ cipherMask d 0 0xFE000000 = 0x20796220 := by decide
theorem test_crypt :
    got (fun t => (t.key, t.opr)) (exec (.crypt 0xC0 0xC3C2C1C0) { State.reset with key := 0x2B574762 })
      = some (0x152C0BB7, 0x0B685717) := by decide
theorem test_crypt_decrypts :
    got (fun t => (t.key, t.opr)) (exec (.crypt 0xC0 0x0B685717) { State.reset with key := 0x2B574762 })
      = some (0x152C0BB7, 0xC3C2C1C0) := by decide
theorem test_imgrd_last_word :
    got (·.opr) (exec (.imgrd 0x1F8) (withImage 0x1FC [(0x1F8, 0xF8), (0x1F9, 0xF9), (0x1FA, 0xFA), (0x1FB, 0xFB)]))
      = some 0xFBFAF9F8 := by decide
theorem test_imgrd_misaligned :
    got (fun t => (errWord t, t.opr)) (exec (.imgrd 0x1FE) (withImage 0x1FC [])) = some (0x00090100, 0) := by decide
theorem test_payw :
    got (fun t => (t.csum, t.key, t.opr))
      (exec (.payw 0xC0)
        { withImage 0x1FC [(0xC0, 0xC0), (0xC1, 0xC1), (0xC2, 0xC2), (0xC3, 0xC3)] with key := 0x2B574762 })
      = some (0x6299, 0x152C0BB7, 0x0B685717) := by decide +kernel
theorem test_payw_misaligned :
    got (fun t => (t.csum, t.key, errWord t)) (exec (.payw 0xC2) { State.reset with key := 7 })
      = some (0x15A0, 7, 0x00090100) := by decide
theorem test_seal :
    got (fun t => (t.csum, t.key, t.opr)) (exec (.sealCsum 0x1FC 0x200) { State.reset with csum := 0xD2, key := 0xAD68C59E })
      = some (0x01FC00D2, 0x3B04C34B, 0xE77E5FB9) := by decide
theorem test_lpoll_definite :
    [0x00040000, 0x00050000, 0x00000000].map (fun p => got (·.opr) (exec (.lpoll p) State.reset))
      = [some 0x00003C02, some 0x00003C01, some 0x00003C01] := by decide
theorem test_lpoll_indefinite :
    [(0x80, 60), (0x08, 1), (0x08000000, 30), (0x00040008, 60)].map
        (fun c : Word × Byte => got (·.opr) (exec (.lpoll c.1) { State.reset with lstat := .connected, dcnt := c.2 }))
      = [some 0x00003B02, some 0x00000000, some 0x00001E02, some 0x00003B02] := by decide
theorem test_ldrop :
    got (fun t => (t.lstat, t.dcnt, t.opr)) (exec .ldrop { State.reset with lstat := .connected, dcnt := 60 })
      = some (.noPeer, 0, 0) := by decide
theorem test_reserved_words :
    [0x0F, 0x12, 0x1F, 0xF0].map (fun w : Byte => got errWord (exec (decodeTriple ⟨w, 1, 2⟩) State.reset))
      = [some 0x00070040, some 0x00070040, some 0x00070040, some 0x00070040] := by decide
theorem test_blocked_before_window :
    got errWord (exec (.kdf 0x1FF) { State.reset with hsst := .awaitingBios }) = some 0x00080080 := by decide

/-! ## Wire commands (95_test_vectors.md 1.3, 2.5, 2.10) -/

theorem test_wireReset :
    got (fun t => (t.rx, t.rxlen, t.ports.requests)) (exec .wireReset (withReplies [.ok [1, 2, 3]] State.reset))
      = some (⟨1, 2, 3, 0, 0⟩, 3, [⟨[0xFF], 3, 5⟩]) := by decide
theorem test_wireStatus_timeout_keeps_old_bytes :
    got (fun t => (t.rx, errWord t, t.tocnt))
      (exec .wireStatus (withReplies [.timeout 0] { State.reset with rx := ⟨0, 0, 0x10, 7, 7⟩ }))
      = some (⟨0, 0, 0x10, 7, 7⟩, 0x00010001, 1) := by decide
theorem test_wireRead :
    got (fun t => (rxWord t, hasDataHint t)) (exec .wireRead (withReplies [.ok [0x78, 0x56, 0x34, 0x12, 0x08]] State.reset))
      = some (0x12345678, true) := by decide
theorem test_wireRead_wrong_length :
    got (·.key) (exec .wireRead (withReplies [.ok [1]] State.reset)) = none := by decide
theorem test_wireWrite :
    got (fun t => (t.ports.requests, rxxWord t))
      (exec (.wireWrite 0x12345678) (withReplies [.ok [0]] { State.reset with rx := ⟨5, 0, 0, 0, 8⟩ }))
      = some ([⟨[0x15, 0x78, 0x56, 0x34, 0x12], 1, 5⟩], 0x00000108) := by decide

/-! ## Steps of the session (95_test_vectors.md 2.5, 2.8, 2.9) -/

theorem test_tick_starts_a_frame_action :
    got (fun t => (t.busy, t.atfb, t.trig)) (step (withInputs [.frame startOnly] State.reset))
      = some (true, false, startOnly) := by decide
theorem test_S1_status_reply :
    got (fun t => (t.hsst, t.ustate, t.ports.requests.head?)) (step (withReplies [.ok [0, 0, 0x10]] (shaking .hsStatus)))
      = some (.ready, .peerReady, some ⟨[0x00], 3, 5⟩) := by decide
theorem test_only_the_third_byte_counts :
    got (fun t => (t.hsst, t.ustate)) (step (withReplies [.ok [0x10, 0x10, 0xEF]] (shaking .hsStatus)))
      = some (.awaitingBios, .waitingForPeer) := by decide
theorem test_S2 :
    got (fun t => (linkWord t, t.hsst, errWord t, t.ports.requests))
      (step { acting .waitingForPeer .connected 1 0x80 with hsst := .awaitingBios })
      = some (0, .inactive, 0x00020002, []) := by decide
theorem test_S3 :
    got (fun t => (linkWord t, t.ustate, errWord t, t.ports.requests))
      (step { acting .peerReady .connected 1 0x80 with trig := startOnly })
      = some (0, .waitingForPeer, 0x00020002, []) := by decide
theorem test_S6 :
    got (fun t => (linkWord t, t.ustate, t.uph, t.hsst, errWord t))
      (step { acting .peerReady .connected 60 0x00050000 with hsst := .awaitingBios, uph := .handshake })
      = some (0x00003C01, .waitingForPeer, .failed, .inactive, 0x00030004) := by decide
theorem test_S7_read :
    got (fun t => (t.usercnt, t.hasData, t.seq))
      (step (withReplies [.ok [0, 0, 0, 0, 0]] { idling .idleRead with trig := { Triggers.off with dec := true, send := true } }))
      = some (0xFFFFFFFF, false, .idleWrite) := by decide
theorem test_S7_write :
    got (fun t => (t.ports.requests, t.busy)) (step (withReplies [.ok [0]] { idling .idleWrite with usercnt := 0xFFFFFFFF }))
      = some ([⟨[0x15, 0xFF, 0xFF, 0xFF, 0xFF], 1, 5⟩], false) := by decide
theorem test_S9 :
    got (fun t => (linkWord t, t.ustate, errWord t, t.ports.requests))
      (step { acting .idle .connected 60 0x00040000 with trig := { Triggers.off with disc := true } })
      = some (0, .waitingForPeer, 0, []) := by decide

/-- Validation on an image of a given length, after a Connected probe. -/
def starting (n : Word) : State :=
  { acting .peerReady .connected 60 0x00040000 with
    trig := startOnly, hsst := .ready, ports := { (withProbes [0x00040000] (withImage n [])).ports with inputs := [] } }

theorem test_X1_to_X4 :
    [0x1FE, 0x1F8, 0xFFFFFFFC, 0xFFFFFFFE].map (fun n => got (fun t => (errWord t, t.uph, t.ustate)) (step (starting n)))
      = [some (0x00040008, .failed, .peerReady), some (0x00050010, .failed, .peerReady),
         some (0x00060020, .failed, .peerReady), some (0x00040008, .failed, .peerReady)] := by decide
theorem test_valid_image_starts_the_handshake :
    got (fun t => (t.window, t.uph, t.hsst, t.seq)) (step (starting 0x204))
      = some (0x208, .handshake, .awaitingBios, .hsReset) := by decide
theorem test_local_key_frame :
    got (fun t => (t.localKey, t.ports.requests, t.csum)) (step (withReplies [.ok [0]] (uploading .localKey .localKey)))
      = some (0xCBE1CFD9, [⟨[0x15, 0xCB, 0xE1, 0xCF, 0xD9], 1, 5⟩], 0x15A0) := by decide
theorem test_X10 :
    got (fun t => (errWord t, t.uph, t.tocnt, t.seq, t.ustate))
      (step (withReplies [.timeout 0]
        { uploading .payload .payload with cursor := 0xC0, params := { Config.defaults with abortOnTimeout := true } }))
      = some (0x000A0201, .failed, 1, .none, .peerReady) := by decide
theorem test_X11 :
    got (fun t => (errWord t, t.uph, t.cursor))
      (step (withReplies [.timeout 0] { uploading .payload .payload with cursor := 0xC0 }))
      = some (0x00010001, .payload, 0xC4) := by decide
theorem test_P4_last_payload_word :
    got (fun t => (t.csum, t.key, t.seq, t.ports.requests))
      (step (withReplies [.ok [0]]
        { uploading .payload .payload with
          cursor := 0x1FC, csum := 0x6B0D, key := 0xDF97DF23,
          ports := (withImage 0x200 [(0x1FC, 0xFC), (0x1FD, 0xFD), (0x1FE, 0xFE), (0x1FF, 0xFF)]).ports }))
      = some (0x7A5E, 0x094FA242, .trailer, [⟨[0x15, 0x9A, 0xC3, 0x37, 0x2B], 1, 5⟩]) := by decide +kernel
theorem test_P4_trailer :
    got (fun t => (t.csum, t.key, t.seq))
      (step (withReplies [.ok [0]] { uploading .trailer .trailer with csum := 0x7A5E, key := 0x094FA242 }))
      = some (0x02007A5E, 0x557D8B57, .ack) := by decide
theorem test_P4_acknowledgement :
    got (fun t => (t.ack, sstatWord t, rxxWord t))
      (step (withReplies [.ok [0xAA, 0xBB, 0xCC, 0xDD, 0]] (uploading .ack .ack)))
      = some (0xDDCCBBAA, 0x0000080A, 0x00000500) := by decide
/-! R388, R75: when a change of the image counts. -/

theorem test_image_change_in_an_upload :
    got (fun t => (t.imgBroken, t.ports.imgLen)) (step (withInputs [.imageLen 0x204] (uploading .header .header)))
      = some (true, 0x204) := by decide
theorem test_image_change_after_start_is_sampled :
    got (fun t => (t.imgBroken, t.draws))
      (step (withInputs [.imageLen 0x204] { acting .peerReady .connected 60 0x00040000 with trig := startOnly }))
      = some (true, 0) := by decide
theorem test_image_change_at_the_acknowledgement_opens_the_checksum :
    got (fun t => (t.imgBroken, t.draws)) (step (withInputs [.imageByte 0 1] (withImageAtAck 0x200))) = some (true, 1) := by
  decide
theorem test_image_change_without_start :
    got (fun t => (t.imgBroken, t.csum)) (step (withInputs [.imageLen 0x204] (acting .peerReady .connected 60 0x00040000)))
      = some (false, 0x15A0) := by decide
theorem test_tick_starts_with_an_unchanged_image :
    got (·.imgBroken) (step (withInputs [.frame startOnly] { State.reset with imgBroken := true, uph := .done }))
      = some false := by decide
theorem test_reset_input :
    got (fun t => (t.csum, t.ustate, t.atfb)) (step (withInputs [.reset] (uploading .header .header)))
      = some (0x15A0, .waitingForPeer, true) := by decide
theorem test_fetch_operation :
    got (·.csum) (step (State.reset.withFetchWord 72 0x0000000000000000102)) = some 0x493B := by decide +kernel
theorem test_fetch_wire_command :
    got (fun t => t.ports.requests) (step ((withReplies [.ok [0]] State.reset).withFetchWord 40 0x1234567815))
      = some [⟨[0x15, 0x78, 0x56, 0x34, 0x12], 1, 5⟩] := by decide

/-! ## Witnesses: for each statement with hypotheses, a state and operands that meet them, one theorem per clause at a
boundary where clauses differ. `busyState` and the others below are the states. -/

def busyState : State := { State.reset with busy := true, atfb := false, seq := .probe }

theorem reset_free : ¬ Blocked State.reset := by simp [Blocked, State.reset]

theorem witness_EncodeOfDecodeIsTheTriple : OpTriple.wellFormed ⟨0x0E, 0, 0⟩ = true := by decide
theorem witness_OperationCheckOrder_reserved :
    (0x10#8 >>> 4 ≠ 0#8) ∧ (0x0F#8 >>> 4 = 0#8 ∧ 0x0F#8 &&& 0x0F#8 = 0x0F#8) := by decide
theorem witness_OperationCheckOrder_last_operation : ¬ (0x0E#8 >>> 4 ≠ 0#8 ∨ 0x0E#8 &&& 0x0F#8 = 0x0F#8) := by decide
theorem witness_OperationCheckOrder_blocked :
    Blocked busyState ∧ Blocked { State.reset with hsst := .awaitingBios }
      ∧ Blocked { State.reset with uph := .handshake } ∧ Blocked { State.reset with uph := .ack }
      ∧ ¬ Blocked { State.reset with uph := .done } := by simp [Blocked, busyState, State.reset]
theorem witness_EveryReservedRowRaisesReservedOp :
    Instr.reservedMbzF 0xF ∈ [.reservedOpcF, .reservedMbz1 0xF, .reservedMbzE 0xF, .reservedMbzF 0xF] := by decide
theorem witness_FoldedChecksumFitsSixteenBits : Config.defaults.csumPoly = 0xA1C1 ∧ (31 : Nat) < 32 := by decide
theorem witness_ImageReadsPadWithZero :
    (3 : Nat) < 4 ∧ (1 : Word).toNat + 3 = (withImage 4 []).ports.imgLen.toNat
      ∧ (0 : Word).toNat + 3 < (withImage 4 []).ports.imgLen.toNat := by decide
theorem witness_OperationsWriteOnlyTheirRegisters :
    got (fun t => decide (t.csum ≠ State.reset.csum)) (exec (decodeTriple ⟨0x0B, 0, 0⟩) State.reset) = some true
      ∧ got (fun t => decide (t.localKey ≠ 0)) (exec (decodeTriple ⟨0x04, 0x200, 0⟩) State.reset) = some true
      ∧ got (fun t => decide (t.remoteKey ≠ 0)) (exec (decodeTriple ⟨0x05, 0, 0⟩) State.reset) = some true
      ∧ got (fun t => decide (t.key ≠ 0)) (exec (decodeTriple ⟨0x07, 0, 0⟩) State.reset) = some true
      ∧ got (fun t => decide (t.dcnt ≠ 0)) (exec (decodeTriple ⟨0x0D, 0x00040000, 0⟩) State.reset) = some true := by
  decide +kernel
/-- Every statement `AcceptedWith` and `RefusedWhileBlocked`: a free state and a blocked one. -/
theorem witness_Accepted_and_Refused : ¬ Blocked State.reset ∧ Blocked busyState := by
  simp [Blocked, busyState, State.reset]
theorem witness_CsumInitLoadsTheSeed : ¬ Blocked State.reset ∧ completes (exec .csumInit State.reset) :=
  ⟨reset_free, _, rfl⟩
theorem witness_CsumFinalOrsTheLength :
    ¬ Blocked State.reset ∧ ∃ t, exec (.csumFinal 1) State.reset = .next t ∧ completes (exec (.csumFinal 2) t) :=
  ⟨reset_free, _, rfl, _, rfl⟩
theorem witness_KdfDerivesTheLocalKey :
    ¬ Blocked State.reset ∧ 0x1FF < State.reset.params.minWindow ∧ State.reset.params.minWindow ≤ 0x200 :=
  ⟨reset_free, by decide, by decide⟩
theorem witness_LocalKeyExampleAndAliases :
    let d := Config.defaults
    kdfIndex d 0x200 &&& 0x7FFF = kdfIndex d 0x40200 &&& 0x7FFF ∧ d.minWindow ≤ 0x200
      ∧ (0x200 : Word) ≤ 0x200 + 0x40000 := by decide
theorem witness_KseedSeedsTheCipher :
    Config.defaults.seedFn = .remote ∧ ¬ Blocked State.reset
      ∧ ∃ t, exec .kseed State.reset = .next t ∧ completes (exec .kseed { t with key := 5 }) :=
  ⟨rfl, reset_free, _, rfl, _, rfl⟩
theorem witness_CryptAdvancesThenMasks_state : ¬ Blocked State.reset := reset_free
theorem witness_CryptAdvancesThenMasks :
    got (fun t => got (·.opr) (exec (.crypt 0xC0 t.opr) { t with key := State.reset.key })) (exec (.crypt 0xC0 7) State.reset)
      = some (some 7) := by decide +kernel
theorem witness_ImgrdReadsOneWord :
    ¬ Blocked State.reset ∧ (2 : Word) &&& 3 ≠ 0 ∧ (4 : Word) &&& 3 = 0 ∧ (withImage 0x200 []).ports.imgLen ≤ 0x200 :=
  ⟨reset_free, by decide, by decide, by decide⟩
theorem witness_ImgrdReadsOneWord_example :
    let s := withImage 0x1FC [(0x1F8, 0xF8), (0x1F9, 0xF9), (0x1FA, 0xFA), (0x1FB, 0xFB)]
    s.ports.imgLen = 0x1FC ∧ Memory.read s.ports.image 0x1F8 = 0xF8 ∧ Memory.read s.ports.image 0x1F9 = 0xF9
      ∧ Memory.read s.ports.image 0x1FA = 0xFA ∧ Memory.read s.ports.image 0x1FB = 0xFB
      ∧ s.ports.imgLen.toNat ≤ (0x1F8 : Word).toNat + 4 := by decide
theorem witness_PaywFoldsAdvancesAndMasks :
    ¬ Blocked State.reset ∧ (0xC2 : Word) &&& 3 ≠ 0 ∧ (0xC4 : Word) &&& 3 = 0 := ⟨reset_free, by decide, by decide⟩
theorem witness_SealFinalizesAndMasks_state : ¬ Blocked State.reset := reset_free
theorem witness_SealFinalizesAndMasks :
    got (fun t => got (·.csum) (exec (.sealCsum 2 0x204) t)) (exec (.sealCsum 1 0x200) State.reset)
      = some (some 0x000315A0) := by decide +kernel
theorem witness_LpollAppliesTheProbeWord :
    let p := State.reset.params
    ¬ Blocked State.reset ∧ (0x00040008 : Word).extractLsb' 0 8 ≠ 0x00#8
      ∧ (0x00040000 : Word) &&& 0xFFFFFF00 = p.peerTypeOk ∧ (0x08000000 : Word) &&& 0xFFFFFF00 = p.peerTypeSpurious ∧ (1#8 < 2#8 ∧ 1#8 ≤ 1#8) :=
  ⟨reset_free, by decide, by decide, by decide, by decide⟩
theorem witness_LdropForcesTheLinkDown :
    ¬ Blocked State.reset ∧ completes (exec .ldrop State.reset)
      ∧ classify State.reset.params 0x00040000 = .connectedType :=
  ⟨reset_free, ⟨_, rfl⟩, by decide⟩
theorem witness_SixtyInconclusiveProbesDropTheLink :
    let d := State.reset.params
    classify d 0x00040000 = .connectedType ∧ classify d 0x00050000 = .otherType ∧ d.debounceSeed ≠ 0
      ∧ (∀ q ∈ List.replicate 60 (0x80 : Word), classify d q = .inconclusive)
      ∧ (List.replicate 60 (0x80 : Word)).length = d.debounceSeed.toNat
      ∧ (List.replicate 59 (0x80 : Word)).length ≤ d.debounceSeed.toNat - 1 :=
  ⟨by decide, by decide, by decide, fun q h => by rw [List.eq_of_mem_replicate h]; decide, by decide, by decide⟩
theorem witness_ErrorBitsAreSticky :
    let s := withInputs [.frame startOnly] { State.reset with errBits := 1, lastErr := some .exchangeTimeout }
    completes (step s) ∧ ∀ rest, s.ports.inputs ≠ .reset :: rest :=
  ⟨⟨_, rfl⟩, by intro rest h; cases h⟩
theorem witness_ParametersAndImageAreReadOnly :
    completes (step (withInputs [.frame startOnly] (withImage 4 [(0, 1)])))
      ∧ (∀ a b rest, (withInputs [.frame startOnly] (withImage 4 [(0, 1)])).ports.inputs ≠ .imageByte a b :: rest)
      ∧ ∀ n rest, (withInputs [.frame startOnly] (withImage 4 [(0, 1)])).ports.inputs ≠ .imageLen n :: rest := by
  refine ⟨⟨_, rfl⟩, ?_, ?_⟩
  · intro _ _ _ h; cases h
  · intro _ _ h; cases h
theorem witness_ParametersAndImageAreReadOnly_byte :
    let s := withInputs [.imageByte 3 1] { uploading .trailer .trailer with ports := (withImage 4 [(0, 1)]).ports }
    s.ports.inputs = .imageByte 3 1 :: [] ∧ Memory.wf s.ports.image = true ∧ ImageHeld s
      ∧ ((3 : Word) < s.ports.imgLen ∧ (1 : Byte) ≠ Memory.read s.ports.image (3 : Word).toNat) :=
  ⟨rfl, rfl, .inl (by decide), by decide, by decide⟩
theorem witness_ParametersAndImageAreReadOnly_byte_beyond :
    let s := withInputs [.imageByte 4 1] (withImage 4 [(0, 1)])
    s.ports.inputs = .imageByte 4 1 :: [] ∧ Memory.wf s.ports.image = true ∧ ¬ (4 : Word) < s.ports.imgLen
      ∧ s.uph ∉ [.payload, .trailer, .ack] := by decide
theorem witness_ParametersAndImageAreReadOnly_length :
    let s := withInputs [.imageLen 8] { acting .peerReady .connected 60 0x00040000 with trig := startOnly }
    s.ports.inputs = .imageLen 8 :: [] ∧ ImageHeld s ∧ (8 : Word) ≠ s.ports.imgLen :=
  ⟨rfl, .inr ⟨rfl, rfl, rfl⟩, by decide⟩
theorem witness_ParametersAndImageAreReadOnly_length_free :
    let s := withInputs [.imageLen 8] (acting .peerReady .connected 60 0x00040000)
    s.ports.inputs = .imageLen 8 :: [] ∧ ¬ ImageHeld s := by
  simp [withInputs, ImageHeld, acting, withProbes, State.reset, Triggers.off]
theorem witness_ReadBackLayout : (17 : Nat) ≤ (17 : BitVec 5).toNat := by decide
theorem witness_Started : Started (withInputs [.frame startOnly] State.reset) := ⟨Config.defaults, _, rfl, rfl, rfl⟩
theorem witness_LinkRegisterLayoutAndInvariant :
    Reachable (withInputs [.frame startOnly] State.reset) ∧ State.reset.params.debounceSeed ≠ 0 :=
  ⟨.start witness_Started, by decide⟩
theorem witness_ResetSetsEveryRegister :
    (withInputs [.reset, .quiet] (uploading .payload .payload)).ports.inputs = .reset :: [.quiet] := rfl
theorem witness_WireCommandsExchange_ok :
    requestOf State.reset.params .wireRead = some ⟨[0x14], 5, 5⟩
      ∧ (withReplies [.ok [1, 2, 3, 4, 5]] State.reset).ports.replies = .ok [1, 2, 3, 4, 5] :: []
      ∧ [1, 2, 3, 4, 5].length = (⟨[0x14], 5, 5⟩ : Request).replyLen := by decide
theorem witness_WireCommandsExchange_timeout :
    requestOf State.reset.params .wireReset = some ⟨[0xFF], 3, 5⟩ ∧ (withReplies [.timeout 0x1F] State.reset).ports.replies = .timeout 0x1F :: []
      ∧ (⟨[0xFF], 3, 5⟩ : Request).replyLen ≤ 3 := by decide
theorem witness_WireCommandsExchange_one_byte :
    requestOf State.reset.params (.wireWrite 0) = some ⟨[0x15, 0, 0, 0, 0], 1, 5⟩ ∧ (⟨[0x15, 0, 0, 0, 0], 1, 5⟩ : Request).replyLen ≤ 1 := by
  decide
theorem witness_EveryRxfillChoiceIsAdmitted :
    requestOf State.reset.params .wireRead = some ⟨[0x14], 5, 5⟩
      ∧ completes (exec .wireRead (withReplies [.timeout 0x05] { State.reset with rx := ⟨1, 2, 3, 4, 5⟩ })) :=
  ⟨rfl, _, rfl⟩
theorem witness_UnscriptedWireCommandsComplete :
    requestOf State.reset.params .wireStatus = some ⟨[0x00], 3, 5⟩ ∧ State.reset.ports.replies = [] := by decide
theorem witness_StepRunsThePresentedOperation :
    (withInputs [.op ⟨0x02, 1, 0⟩] State.reset).ports.inputs = .op ⟨0x02, 1, 0⟩ :: []
      ∧ read (decode .op (OpTriple.bytes ⟨0x02, 1, 0⟩)) = some (.csumFold 1) := by decide
theorem witness_StepRunsTheNextWireCommand :
    (uploading .payload .payload).ports.inputs = [] ∧ (uploading .payload .payload).seq ≠ .none
      ∧ (uploading .payload .payload).seq ≠ .probe
      ∧ (withInputs [.quiet] (uploading .header .header)).ports.inputs.head? = some .quiet := by decide
theorem witness_FaultsAreBrokenTransportContracts_command :
    requestOf State.reset.params .wireRead = some ⟨[0x14], 5, 5⟩ ∧ (withReplies [.ok [1]] State.reset).ports.replies = .ok [1] :: []
      ∧ [(1 : Byte)].length ≠ (⟨[0x14], 5, 5⟩ : Request).replyLen := by decide
theorem witness_FaultsAreBrokenTransportContracts :
    step (withInputs [.response (.ok [])] State.reset) = .fault .unsolicitedResponse
      ∧ step (withReplies [.ok [0, 0]] (shaking .hsReset)) = .fault .replyLength := ⟨rfl, rfl⟩

/-! The invariant: each kind of state that the statements about steps need. -/

theorem inv_reset_with_tick : MachineInv (withInputs [.frame startOnly] State.reset) := by
  simp [MachineInv, ParamsOk, LinkOk, FrameOk, ErrOk, RxOk, RequestsOk, ImageOk, SequencerOk, CursorOk, withInputs, State.reset,
    Ports.quiet, Memory.wf, Memory.wfFrom, phaseOf, transferPhase, uploadActive, Config.defaults, aligned4]
theorem inv_shaking : MachineInv (withReplies [.ok [0, 0, 0x10]] { shaking .hsStatus with hsp := true }) := by
  simp [MachineInv, ParamsOk, LinkOk, FrameOk, ErrOk, RxOk, RequestsOk, ImageOk, SequencerOk, CursorOk, withReplies, shaking,
    State.reset, Ports.quiet, Memory.wf, Memory.wfFrom, phaseOf, transferPhase, uploadActive, Config.defaults, aligned4]
theorem inv_acting_peerReady : MachineInv { acting .peerReady .connected 1 0x80 with hsst := .ready } := by
  simp [MachineInv, ParamsOk, LinkOk, FrameOk, ErrOk, RxOk, RequestsOk, ImageOk, SequencerOk, CursorOk, withProbes, acting,
    State.reset, Ports.quiet, Memory.wf, Memory.wfFrom, phaseOf, transferPhase, uploadActive, Config.defaults, aligned4]
theorem inv_uploading_ack :
    MachineInv (withReplies [.ok [1, 2, 3, 4, 5]] { uploading .ack .ack with cursor := 0x200 }) := by
  simp [MachineInv, ParamsOk, LinkOk, FrameOk, ErrOk, RxOk, RequestsOk, ImageOk, SequencerOk, CursorOk, withReplies, uploading,
    State.reset, Ports.quiet, Memory.wf, Memory.wfFrom, phaseOf, transferPhase, uploadActive, Config.defaults, windowOf,
    aligned4]
theorem inv_acting_idle :
    MachineInv { acting .idle .connected 60 0x00040000 with
      hsst := .ready, trig := { Triggers.off with disc := true } } := by
  simp [MachineInv, ParamsOk, LinkOk, FrameOk, ErrOk, RxOk, RequestsOk, ImageOk, SequencerOk, CursorOk, withProbes, acting,
    State.reset, Ports.quiet, Memory.wf, Memory.wfFrom, phaseOf, transferPhase, uploadActive, Config.defaults, aligned4]

theorem witness_InvariantHoldsAfterReset :
    Started (withInputs [.frame startOnly] State.reset) ∧ ParamsOk State.reset.params :=
  ⟨witness_Started, by decide, by decide, by decide, by decide⟩
theorem witness_EveryStepKeepsTheInvariant :
    MachineInv (withInputs [.frame startOnly] State.reset) ∧ completes (step (withInputs [.frame startOnly] State.reset)) :=
  ⟨inv_reset_with_tick, _, rfl⟩
theorem witness_SessionTransitionsAreTheTable_1 :
    ∃ s t, MachineInv s ∧ step s = .next t ∧ s.ustate = .waitingForPeer ∧ t.ustate = .peerReady :=
  ⟨_, _, inv_shaking, rfl, rfl, rfl⟩
theorem witness_SessionTransitionsAreTheTable_2 :
    ∃ s t, MachineInv s ∧ step s = .next t ∧ s.ustate = .peerReady ∧ t.ustate = .waitingForPeer :=
  ⟨_, _, inv_acting_peerReady, rfl, rfl, rfl⟩
theorem witness_SessionTransitionsAreTheTable_3 :
    ∃ s t, MachineInv s ∧ step s = .next t ∧ s.ustate = .peerReady ∧ t.ustate = .idle :=
  ⟨_, _, inv_uploading_ack, rfl, rfl, rfl⟩
theorem witness_SessionTransitionsAreTheTable_4 :
    ∃ s t, MachineInv s ∧ step s = .next t ∧ s.ustate = .idle ∧ t.ustate = .waitingForPeer :=
  ⟨_, _, inv_acting_idle, rfl, rfl, rfl⟩

/-! The frame actions. -/

theorem witness_FrameTickStartsOrIsLost :
    (withInputs [.frame startOnly] State.reset).ports.inputs = .frame startOnly :: []
      ∧ State.reset.atfb = true ∧ busyState.atfb = false := by decide
theorem witness_FramePropertiesOfTheSession_1 :
    let s := withProbes [0x00040000] (withReplies [.timeout 0, .ok [0, 0, 0x10]] (withInputs [.frame .off] State.reset))
    s.atfb = true ∧ s.ustate = .waitingForPeer ∧ s.ports.inputs = [.frame .off] ∧ s.ports.probes = 0x00040000 :: []
      ∧ classify s.params 0x00040000 = .connectedType ∧ s.ports.replies = .timeout 0 :: .ok [0, 0, 0x10] :: []
      ∧ Reply.fits 3 (.timeout 0) = true ∧ (0x10 : Byte) &&& s.params.readyBit ≠ 0 := by decide
/-- In PeerReady on a Connected link before a tick, with one probe word to come. -/
def readyAt (d : Byte) (l : Triggers) (p : Word) : State :=
  withProbes [p] (withInputs [.frame l] { State.reset with ustate := .peerReady, hsst := .ready, lstat := .connected, dcnt := d })
theorem witness_FramePropertiesOfTheSession_2 :
    let s := readyAt 1 startOnly 0x80
    s.atfb = true ∧ s.ports.inputs = [.frame startOnly] ∧ s.ports.probes = 0x80 :: [] ∧ s.ustate = .peerReady
      ∧ s.uph ≠ .handshake ∧ (linkUpdate 0x80 s).lstat = .noPeer := by decide
theorem witness_FramePropertiesOfTheSession_2_other_type :
    let s := readyAt 60 startOnly 0x00050000
    s.ustate = .peerReady ∧ s.uph ≠ .handshake ∧ (linkUpdate 0x00050000 s).lstat = .wrongPeerType := by decide
theorem witness_FramePropertiesOfTheSession_2_no_start :
    let s := readyAt 2 .off 0x80
    s.ustate = .peerReady ∧ s.uph ≠ .handshake ∧ (linkUpdate 0x80 s).lstat = .connected ∧ Triggers.off.start = false := by
  decide
theorem witness_FramePropertiesOfTheSession_2_waiting :
    let s := withProbes [0x80] (withInputs [.frame startOnly] State.reset)
    s.atfb = true ∧ s.ports.inputs = [.frame startOnly] ∧ s.ports.probes = 0x80 :: [] ∧ s.ustate = .waitingForPeer
      ∧ s.hsst ≠ .awaitingBios ∧ (linkUpdate 0x80 s).lstat ≠ .connected := by decide
theorem witness_FramePropertiesOfTheSession_3 :
    classify State.reset.params 0x80 = .inconclusive
      ∧ (1#8 < ({ State.reset with lstat := .connected, dcnt := 2 } : State).dcnt) := by decide
theorem witness_UnusedTriggersHaveNoEffect :
    let s := acting .waitingForPeer .noPeer 0 0x80
    s.ports.inputs = [] ∧ s.seq = .probe ∧ completes (step s) ∧ s.ustate = .waitingForPeer :=
  ⟨rfl, rfl, ⟨_, rfl⟩, rfl⟩
theorem witness_UnusedTriggersHaveNoEffect_peerReady :
    let s := acting .peerReady .noPeer 0 0x80
    s.ports.inputs = [] ∧ s.seq = .probe ∧ completes (step s)
      ∧ (s.ustate = .peerReady ∧ ({ Triggers.off with disc := true } : Triggers).start = s.trig.start) :=
  ⟨rfl, rfl, ⟨_, rfl⟩, rfl, rfl⟩
theorem witness_UnusedTriggersHaveNoEffect_idle :
    let s := acting .idle .noPeer 0 0x80
    s.ports.inputs = [] ∧ s.seq = .probe ∧ completes (step s) ∧ (s.ustate = .idle ∧ startOnly = { s.trig with start := true }) :=
  ⟨rfl, rfl, ⟨_, rfl⟩, rfl, rfl⟩
theorem witness_UnusedTriggersHaveNoEffect_upload :
    let s := withReplies [.ok [0]] (uploading .header .header)
    s.ports.inputs = [] ∧ s.seq ≠ .none ∧ s.seq ≠ .probe ∧ completes (step s)
      ∧ (s.seq = .idleRead → startOnly.inc = s.trig.inc ∧ startOnly.dec = s.trig.dec ∧ startOnly.send = s.trig.send) :=
  ⟨rfl, by decide, by decide, ⟨_, rfl⟩, by decide⟩
theorem witness_UnusedTriggersHaveNoEffect_idle_read :
    let s := withReplies [.ok [0, 0, 0, 0, 8]] (idling .idleRead)
    let l := { startOnly with disc := true }
    s.ports.inputs = [] ∧ s.seq ≠ .none ∧ s.seq ≠ .probe ∧ completes (step s) ∧ s.seq = .idleRead
      ∧ l.inc = s.trig.inc ∧ l.dec = s.trig.dec ∧ l.send = s.trig.send :=
  ⟨rfl, by decide, by decide, ⟨_, rfl⟩, rfl, rfl, rfl, rfl⟩
theorem witness_HandshakeIteration :
    let s := withReplies [.ok [0, 0, 0x10], .timeout 0] (shaking .hsReset)
    s.ports.inputs = [] ∧ s.seq = .hsReset ∧ s.ustate = .waitingForPeer ∧ repliesFit [3, 3] s.ports.replies = true := by
  decide
theorem witness_HandshakeIteration_in_an_upload :
    let s := withReplies [.ok [0, 0, 0], .ok [0, 0, 0x10]] { uploading .handshake .hsReset with hsst := .awaitingBios }
    s.ports.inputs = [] ∧ s.seq = .hsReset ∧ (s.ustate = .peerReady ∧ s.uph = .handshake)
      ∧ repliesFit [3, 3] s.ports.replies = true := by decide
theorem witness_HandshakeIteration_from_the_probe :
    let s := withReplies [.ok [0, 0, 0], .ok [0, 0, 0]] (acting .waitingForPeer .connected 2 0x80)
    s.ports.inputs = [] ∧ s.seq = .probe ∧ s.ustate = .waitingForPeer ∧ s.ports.probes = 0x80 :: []
      ∧ (linkUpdate 0x80 s).lstat = .connected ∧ (linkUpdate 0x08000000 s).lstat = .connected
      ∧ repliesFit [3, 3] s.ports.replies = true := by decide
theorem witness_HandshakeIteration_from_the_probe_of_an_upload :
    let s := withReplies [.timeout 0, .ok [0, 0, 0]]
      { acting .peerReady .connected 60 0x00040000 with hsst := .awaitingBios, uph := .handshake }
    s.ports.inputs = [] ∧ s.seq = .probe ∧ (s.ustate = .peerReady ∧ s.uph = .handshake ∧ s.hsst = .awaitingBios)
      ∧ s.ports.probes = 0x00040000 :: [] ∧ (linkUpdate 0x00040000 s).lstat = .connected
      ∧ repliesFit [3, 3] s.ports.replies = true := by decide
theorem witness_HandshakeAbort :
    let s := { acting .waitingForPeer .connected 1 0x80 with hsst := .awaitingBios }
    s.ports.inputs = [] ∧ s.seq = .probe ∧ s.hsst = .awaitingBios ∧ s.ustate = .waitingForPeer
      ∧ s.ports.probes = 0x80 :: [] ∧ (linkUpdate 0x80 s).lstat ≠ .connected ∧ (linkUpdate 0x80 s).lstat = .noPeer := by
  decide
theorem witness_HandshakeAbort_in_an_upload :
    let s := { acting .peerReady .connected 60 0x00050000 with hsst := .awaitingBios, uph := .handshake }
    s.ports.inputs = [] ∧ s.seq = .probe ∧ s.hsst = .awaitingBios ∧ (s.ustate = .peerReady ∧ s.uph = .handshake)
      ∧ s.ports.probes = 0x00050000 :: [] ∧ (linkUpdate 0x00050000 s).lstat = .wrongPeerType := by decide
theorem witness_UploadValidation :
    let s := starting 0x200
    s.ports.inputs = [] ∧ s.seq = .probe ∧ s.ustate = .peerReady ∧ s.uph ≠ .handshake ∧ s.trig.start = true
      ∧ s.ports.probes = 0x00040000 :: [] ∧ (linkUpdate 0x00040000 s).lstat = .connected ∧ s.ports.imgLen &&& 3 = 0
      ∧ ¬ s.params.maxImageLen < s.ports.imgLen ∧ (s.ports.imgLen + 7) &&& ~~~7 = 0x200 := by decide
theorem witness_UploadValidation_inconclusive_probe :
    let s := withProbes [0x80] { starting 0x200 with dcnt := 2 }
    s.ports.inputs = [] ∧ s.seq = .probe ∧ s.ustate = .peerReady ∧ s.uph ≠ .handshake ∧ s.trig.start = true
      ∧ s.ports.probes = 0x80 :: [] ∧ (linkUpdate 0x80 s).lstat = .connected
      ∧ (linkUpdate 0x08000000 s).lstat = .connected := by decide
theorem witness_UploadValidation_rejected :
    (starting 0x1FE).ports.imgLen &&& 3 ≠ 0 ∧ Config.defaults.maxImageLen < (starting 0xFFFFFFFC).ports.imgLen
      ∧ ((starting 0x1F8).ports.imgLen + 7) &&& ~~~7 < Config.defaults.minWindow := by decide
/-- The same state with ABORT_ON_TIMEOUT set. -/
def aborting (s : State) : State := { s with params := { s.params with abortOnTimeout := true } }
theorem witness_KeyExchangeOfAnUpload :
    let s := withReplies [.ok [1, 2, 3, 4, 5], .timeout 0] (uploading .remoteKey .remoteKey)
    s.ports.inputs = [] ∧ s.seq = .remoteKey ∧ s.imgBroken = false ∧ NoAbort 2 s
      ∧ repliesFit [5, 1] s.ports.replies = true := ⟨rfl, rfl, rfl, .inl rfl, rfl⟩
theorem witness_KeyExchangeOfAnUpload_aborting :
    let s := aborting (withReplies [.ok [1, 2, 3, 4, 5], .ok [0]] (uploading .remoteKey .remoteKey))
    s.params.abortOnTimeout = true ∧ NoAbort 2 s ∧ repliesFit [5, 1] s.ports.replies = true := ⟨rfl, .inr rfl, rfl⟩
theorem witness_HeaderPhaseSendsTheImageBytes :
    let s := withReplies [.ok [0]] (uploading .header .header)
    s.ports.inputs = [] ∧ s.seq = .header ∧ s.cursor = 0 ∧ s.imgBroken = false ∧ s.params.headerLen.toNat = 4 * 48
      ∧ 0 < 48 ∧ NoAbort 48 s ∧ s.params.headerLen < s.window ∧ repliesFit (List.replicate 48 1) s.ports.replies = true :=
  ⟨rfl, rfl, rfl, rfl, rfl, by decide, .inl rfl, by decide, by decide⟩
theorem witness_HeaderPhaseSendsTheImageBytes_aborting :
    let s := aborting (withReplies (List.replicate 48 (.ok [0])) (uploading .header .header))
    s.params.abortOnTimeout = true ∧ NoAbort 48 s ∧ repliesFit (List.replicate 48 1) s.ports.replies = true :=
  ⟨rfl, .inr (by decide), by decide⟩
theorem witness_PayloadPhaseSendsEveryWord :
    let s := withReplies [.ok [0]] { uploading .payload .payload with cursor := 0xC0 }
    s.ports.inputs = [] ∧ s.seq = .payload ∧ s.imgBroken = false ∧ NoAbort 80 s ∧ 0 < 80
      ∧ s.cursor.toNat + 4 * 80 = s.window.toNat ∧ repliesFit (List.replicate 80 1) s.ports.replies = true :=
  ⟨rfl, rfl, rfl, .inl rfl, by decide, by decide, by decide⟩
theorem witness_PayloadPhaseSendsEveryWord_aborting :
    let s := aborting (withReplies [.ok [0]] { uploading .payload .payload with cursor := 0x1FC })
    s.params.abortOnTimeout = true ∧ NoAbort 1 s ∧ s.cursor.toNat + 4 * 1 = s.window.toNat
      ∧ repliesFit (List.replicate 1 1) s.ports.replies = true := ⟨rfl, .inr rfl, rfl, rfl⟩
theorem witness_TrailerAndAcknowledgement :
    let s := withReplies [.ok [0], .ok [1, 2, 3, 4, 5]] (uploading .trailer .trailer)
    s.ports.inputs = [] ∧ s.seq = .trailer ∧ s.imgBroken = false ∧ NoAbort 2 s ∧ NoAbort 2 (aborting s)
      ∧ repliesFit [1, 5] s.ports.replies = true := ⟨rfl, rfl, rfl, .inl rfl, .inr rfl, rfl⟩
theorem witness_UploadExchangeCounts :
    let s := withReplies [.ok [1, 2, 3, 4, 5], .timeout 0] (uploading .remoteKey .remoteKey)
    s.ports.inputs = [] ∧ s.seq = .remoteKey ∧ NoAbort (4 + 48 + 80) s ∧ 0 < 48 ∧ 0 < 80
      ∧ s.params.headerLen.toNat = 4 * 48 ∧ 4 * 48 + 4 * 80 = s.window.toNat
      ∧ repliesFit (uploadReplyLens 48 80) s.ports.replies = true :=
  ⟨rfl, rfl, .inl rfl, by decide, by decide, rfl, by decide, by decide⟩
theorem witness_UploadExchangeCounts_aborting :
    let rs := .ok [1, 2, 3, 4, 5] :: (List.replicate 130 (Reply.ok [0]) ++ [.ok [1, 2, 3, 4, 5]])
    let s := aborting (withReplies rs (uploading .remoteKey .remoteKey))
    s.params.abortOnTimeout = true ∧ NoAbort (4 + 48 + 80) s ∧ repliesFit (uploadReplyLens 48 80) s.ports.replies = true :=
  ⟨rfl, .inr (by decide +kernel), by decide +kernel⟩
theorem witness_PeerRecoversThePayload :
    let s := withReplies [.ok [0]] { uploading .payload .payload with cursor := 0x1FC }
    s.ports.inputs = [] ∧ s.seq = .payload ∧ s.imgBroken = false ∧ NoAbort (1 + 1) s ∧ 0 < 1
      ∧ s.cursor.toNat + 4 * 1 = s.window.toNat ∧ repliesFit (List.replicate (1 + 1) 1) s.ports.replies = true :=
  ⟨rfl, rfl, rfl, .inl rfl, by decide, rfl, rfl⟩
theorem witness_TimeoutAbortsTheTransfer :
    let s := withReplies [.timeout 0] { uploading .ack .ack with params := { Config.defaults with abortOnTimeout := true } }
    s.ports.inputs = [] ∧ s.seq = .ack ∧ s.params.abortOnTimeout = true ∧ s.ports.replies = .timeout 0 :: [] := by decide
theorem witness_IdleReadAndWrite :
    let s := withReplies [.ok [0, 0, 0, 0, 8], .ok [0]] { idling .idleRead with trig := { Triggers.off with send := true } }
    s.ports.inputs = [] ∧ s.seq = .idleRead ∧ repliesFit [5] s.ports.replies = true ∧ s.trig.send = true
      ∧ repliesFit [5, 1] s.ports.replies = true := by decide
theorem witness_IdleReadAndWrite_without_send :
    let s := withReplies [.ok [0, 0, 0, 0, 8], .ok [0, 0, 0, 0, 8]] (idling .idleRead)
    s.ports.inputs = [] ∧ s.seq = .idleRead ∧ repliesFit [5] s.ports.replies = true ∧ s.trig.send = false
      ∧ repliesFit [5, 1] s.ports.replies = false := by decide
theorem witness_IdleLeavesOnDisconnect :
    let s := acting .idle .connected 60 0x00040000
    s.ports.inputs = [] ∧ s.seq = .probe ∧ s.ustate = .idle ∧ s.ports.probes = 0x00040000 :: [] ∧ s.trig.disc = false
      ∧ (linkUpdate 0x00040000 s).lstat = .connected := by decide
theorem witness_IdleLeavesOnDisconnect_lost :
    (linkUpdate 0x80 (acting .idle .connected 1 0x80)).lstat = .noPeer
      ∧ (linkUpdate 0x00050000 (acting .idle .connected 1 0x00050000)).lstat = .wrongPeerType := by decide

end Sys2Proof.Tests
end

section
/-! PROOFS. One atomic step (00_scope.md R7): a step runs the instruction whose bytes stand where it takes its instruction
from, the operation port or the next exchange of the frame action. -/

namespace Sys2Proof.Machine

/-! ## Running bytes that decode -/

/-- Bytes that decode run their instruction. -/
theorem runBytes_of_decode {p : Port} {bs : List Byte} {i : Instr} (h : decode p bs = .ok i) (s : State) :
    runBytes p bs s = exec i s := by
  simp only [runBytes, h]

/-- The state without its first input, once that input is known to be there. -/
theorem takeInput_of_cons {s : State} {i : Input} {rest : List Input} (h : s.ports.inputs = i :: rest) :
    takeInput s = { s with ports := { s.ports with inputs := rest } } := by
  simp only [takeInput, h, List.tail_cons]

/-! ## The frame of an exchange

Each of the four Write exchanges of an upload sends the Write frame of some value, also where a changed image leaves that
value free (log 8); the other exchanges send a frame that R91 fixes. -/

/-- The local key's frame is the Write of the key's bytes in reverse order (R64, R159). -/
theorem localKeyFrame_eq_writeFrame (k : Word) :
    localKeyFrame k = writeFrame (le32 (byteOf 3 k) (byteOf 2 k) (byteOf 1 k) (byteOf 0 k)) :=
  (writeFrame_le32 ..).symm

/-- A header word is sent as the Write of the image word itself (R258). -/
theorem headerFrame_eq_writeFrame (s : State) (o : Word) : headerFrame s o = writeFrame (imageWord s o) :=
  (writeFrame_le32 ..).symm

theorem prepareLocalKey_frame (s : State) : ∃ v, (prepareLocalKey s).2 = writeFrame v := by
  unfold prepareLocalKey
  split
  · exact ⟨_, rfl⟩
  · exact ⟨_, localKeyFrame_eq_writeFrame _⟩

theorem prepareHeader_frame (s : State) : ∃ v, (prepareHeader s).2 = writeFrame v := by
  unfold prepareHeader
  split
  · exact ⟨_, rfl⟩
  · exact ⟨_, headerFrame_eq_writeFrame s _⟩

theorem preparePayload_frame (s : State) : ∃ v, (preparePayload s).2 = writeFrame v := by
  unfold preparePayload
  split <;> exact ⟨_, rfl⟩

theorem prepareTrailer_frame (s : State) : ∃ v, (prepareTrailer s).2 = writeFrame v := by
  unfold prepareTrailer
  split <;> exact ⟨_, rfl⟩

/-- A Write frame decodes to an instruction of the wire port. -/
theorem decode_wire_of_writeFrame {bs : List Byte} (h : ∃ v, bs = writeFrame v) :
    ∃ i, decode .wire bs = .ok i ∧ i.port = .wire := by
  obtain ⟨v, rfl⟩ := h
  exact ⟨.wireWrite v, decode_writeFrame v, rfl⟩

/-- The frame that an exchange of a frame action sends is a wire command (R7, R91). -/
theorem decode_prepare {s : State} (h : isExchange s.seq) :
    ∃ i, decode .wire (prepare s).2 = .ok i ∧ i.port = .wire := by
  unfold prepare
  cases hq : s.seq with
  | none => exact absurd hq h.1
  | probe => exact absurd hq h.2
  | hsReset => exact ⟨.wireReset, decode_frame_reset, rfl⟩
  | hsStatus => exact ⟨.wireStatus, decode_frame_status, rfl⟩
  | remoteKey => exact ⟨.wireRead, decode_frame_read, rfl⟩
  | localKey => exact decode_wire_of_writeFrame (prepareLocalKey_frame s)
  | header => exact decode_wire_of_writeFrame (prepareHeader_frame s)
  | payload => exact decode_wire_of_writeFrame (preparePayload_frame s)
  | trailer => exact decode_wire_of_writeFrame (prepareTrailer_frame s)
  | ack => exact ⟨.wireRead, decode_frame_read, rfl⟩
  | idleRead => exact ⟨.wireRead, decode_frame_read, rfl⟩
  | idleWrite => exact decode_wire_of_writeFrame ⟨s.usercnt, rfl⟩

/-! ## The step of a frame action -/

/-- The machine's own step where an exchange is next. -/
theorem advance_of_isExchange {s : State} (h : isExchange s.seq) : advance s = exchangeStep s := by
  rw [advance_eq, if_neg h.1, if_neg h.2]

/-- With no input, or with one that brings nothing, the machine takes its own step. -/
theorem step_of_noInput {s u : State}
    (h : s.ports.inputs = [] ∧ u = s ∨ s.ports.inputs.head? = some .quiet
      ∧ u = { s with ports := { s.ports with inputs := s.ports.inputs.tail } }) :
    step s = advance u ∧ u.seq = s.seq := by
  rcases h with ⟨hnil, rfl⟩ | ⟨hquiet, rfl⟩
  · exact ⟨step_of_nil hnil, rfl⟩
  · obtain ⟨rest, hcons⟩ := List.head?_eq_some_iff.mp hquiet
    exact ⟨step_of_quiet hcons, rfl⟩

/-! ## The statements -/

/-- Settles O39: the bytes of a triple decode to one instruction only, the one the step runs. -/
theorem stepRunsThePresentedOperation : Obligations.StepRunsThePresentedOperation := by
  intro s t rest i hin hdec
  have hi : decodeTriple t = i := by
    rw [decode_triple_bytes] at hdec
    exact Except.ok.inj hdec
  rw [step_of_op hin, takeInput_of_cons hin, hi]

/-- Settles O40: the step is `exchangeStep`, whose frame decodes by `decode_prepare`. -/
theorem stepRunsTheNextWireCommand : Obligations.StepRunsTheNextWireCommand := by
  intro s u hin hnone hprobe
  obtain ⟨hstep, hseq⟩ := step_of_noInput hin
  have hx : isExchange u.seq := hseq ▸ ⟨hnone, hprobe⟩
  obtain ⟨i, hdec, hport⟩ := decode_prepare hx
  have hrun : runBytes .wire (prepare u).2 (prepare u).1 = exec i (prepare u).1 := runBytes_of_decode hdec _
  rw [hstep, advance_of_isExchange hx, exchangeStep, hrun, hseq]
  refine ⟨i, hdec, hport, fun t ht => ?_, fun r hr => ?_⟩
  · rw [ht]
  · rw [hr]

end Sys2Proof.Machine
end

section
/-! PROOFS. What every step keeps of the registers outside the session: the parameters, the link monitor, the sticky
error bits, RXLEN, the requests and the image (10_state.md R30, R32, R37; R326). -/

namespace Sys2Proof.Machine

/-! ## The registers that only the shared operations write

The error bits, the link monitor, the receive length, the requests issued and the image are written by `raise`, by the
link monitor, by an exchange and by the image inputs; a session action writes them through these alone. -/

/-- Those registers, and the parameters. -/
def ledger (s : State) :
    Config.Params × LinkStatus × Byte × BitVec 10 × Option ErrCode × BitVec 3 × List Request × Memory :=
  (s.params, s.lstat, s.dcnt, s.errBits, s.lastErr, s.rxlen, s.ports.requests, s.ports.image)

/-- What every step but a RESET keeps of them. -/
structure Keeps (s t : State) : Prop where
  params : t.params = s.params
  link : s.params.debounceSeed ≠ 0#8 → LinkOk s → LinkOk t
  sticky : s.errBits &&& t.errBits = s.errBits
  err : ErrOk s → ErrOk t
  rx : RxOk s → RxOk t
  requests : RequestsOk s → RequestsOk t
  image : ImageOk s → ImageOk t

theorem Keeps.of_ledger {s t : State} (h : ledger t = ledger s) : Keeps s t := by
  simp only [ledger, Prod.mk.injEq] at h
  obtain ⟨hparams, hlstat, hdcnt, hbits, hlast, hrxlen, hrequests, himage⟩ := h
  exact
    { params := hparams
      link := fun _ hs => by simpa only [LinkOk, hparams, hlstat, hdcnt] using hs
      sticky := by rw [hbits, BitVec.and_self]
      err := fun hs => by simpa only [ErrOk, hbits, hlast] using hs
      rx := fun hs => by simpa only [RxOk, hrxlen] using hs
      requests := fun hs => by simpa only [RequestsOk, hrequests] using hs
      image := fun hs => by simpa only [ImageOk, himage] using hs }

theorem Keeps.trans {s t u : State} (h : Keeps s t) (k : Keeps t u) : Keeps s u where
  params := k.params.trans h.params
  link hseed hs := k.link (h.params ▸ hseed) (h.link hseed hs)
  sticky := by rw [← h.sticky, BitVec.and_assoc, k.sticky]
  err := k.err ∘ h.err
  rx := k.rx ∘ h.rx
  requests := k.requests ∘ h.requests
  image := k.image ∘ h.image

theorem Keeps.from_ledger {s t u : State} (k : Keeps t u) (h : ledger t = ledger s) : Keeps s u :=
  (Keeps.of_ledger h).trans k

/-! ### raise -/

/-- The sticky bit of an error is a bit of ERR[9:0] (R340, R341). -/
theorem ErrCode.mask_ne_zero (e : ErrCode) : e.mask ≠ 0#10 := by cases e <;> decide

/-- An error that is recorded last, over any bits, is recorded consistently (R32, R340). -/
theorem errOk_of_raised {s t : State} {e : ErrCode} (hbits : t.errBits = s.errBits ||| e.mask)
    (hlast : t.lastErr = some e) : ErrOk t := by
  refine ⟨?_, ?_⟩
  · simp [hbits, hlast, BitVec.or_eq_zero_iff, e.mask_ne_zero]
  · intro d hd
    obtain rfl : e = d := by simpa [hlast] using hd
    rw [hbits]
    ext i hi
    simpa using Or.inr

/-- Bits stay set under any further bits. -/
theorem and_or_self_left {w : Nat} (a b : BitVec w) : a &&& (a ||| b) = a := by
  ext i hi
  simpa using Or.inl

theorem keeps_raise (e : ErrCode) (s : State) : Keeps s (raise e s) where
  params := rfl
  link _ h := h
  sticky := and_or_self_left _ _
  err _ := errOk_of_raised rfl rfl
  rx h := h
  requests h := h
  image h := h

/-! ### The link monitor -/

/-- A new LSTAT and DCNT that fit together keep the rest. -/
theorem Keeps.of_link {s : State} {l : LinkStatus} {d : Byte}
    (h : s.params.debounceSeed ≠ 0#8 → LinkOk s → LinkOk { s with lstat := l, dcnt := d }) :
    Keeps s { s with lstat := l, dcnt := d } where
  params := rfl
  link := h
  sticky := BitVec.and_self
  err h := h
  rx h := h
  requests h := h
  image h := h

theorem keeps_linkDrop (s : State) : Keeps s (linkDrop s) :=
  .of_link fun _ _ => ⟨by simp, Nat.zero_le _⟩

/-- DCNT after an inconclusive probe (R223). -/
theorem countDown_le (d : Byte) : countDown d ≤ d := by
  unfold countDown
  split
  · bv_omega
  · exact BitVec.le_refl d

/-- A probe word keeps DCNT = 0 exactly in NoPeer (R30), when a definite probe seeds a count. -/
theorem linkOk_linkUpdate (p : Word) {s : State} (hseed : s.params.debounceSeed ≠ 0#8) (h : LinkOk s) :
    LinkOk (linkUpdate p s) := by
  obtain ⟨hzero, hle⟩ := h
  unfold linkUpdate
  cases classify s.params p with
  | inconclusive =>
    refine ⟨?_, BitVec.le_trans (countDown_le s.dcnt) hle⟩
    by_cases hd : countDown s.dcnt = 0#8
    · simp [hd]
    · have hdcnt : s.dcnt ≠ 0#8 := fun h0 => hd (by simp [countDown, h0])
      simp [hd, ← hzero, hdcnt]
  | connectedType => simp [LinkOk, hseed]
  | spurious => exact ⟨hzero, hle⟩
  | otherType => simp [LinkOk, hseed]

/-- A probe word changes LSTAT and DCNT alone. -/
theorem linkUpdate_self (p : Word) (s : State) :
    linkUpdate p s = { s with lstat := (linkUpdate p s).lstat, dcnt := (linkUpdate p s).dcnt } :=
  linkUpdate_eq p rfl rfl rfl

theorem keeps_linkUpdate (p : Word) (s : State) : Keeps s (linkUpdate p s) := by
  rw [linkUpdate_self]
  exact .of_link fun hseed h => linkUpdate_self p s ▸ linkOk_linkUpdate p hseed h

/-! ### An exchange -/

/-- The frame that an exchange step sends is a request of R91 with its own reply length (R326). -/
theorem prepare_request_wellFormed {s : State} (h : isExchange s.seq) (n : Nat) :
    Request.wellFormed ⟨(prepare s).2, replyLenOf s.seq, n⟩ = true := by
  have write : ∀ {bs : List Byte}, (∃ v, bs = writeFrame v) → Request.wellFormed ⟨bs, 1, n⟩ = true := by
    rintro _ ⟨v, rfl⟩
    rfl
  unfold prepare
  cases hq : s.seq with
  | none => exact absurd hq h.1
  | probe => exact absurd hq h.2
  | localKey => exact write (prepareLocalKey_frame s)
  | header => exact write (prepareHeader_frame s)
  | payload => exact write (preparePayload_frame s)
  | trailer => exact write (prepareTrailer_frame s)
  | idleWrite => exact write ⟨s.usercnt, rfl⟩
  | _ => rfl

/-- Only keys, the checksum and the count of free values differ: what precedes an exchange changes nothing else. -/
def KeysOnly (s t : State) : Prop :=
  ∃ k c l d, t = { s with key := k, csum := c, localKey := l, draws := d }

theorem KeysOnly.refl (s : State) : KeysOnly s s := ⟨_, _, _, _, rfl⟩

theorem prepare_keysOnly (s : State) : KeysOnly s (prepare s).1 := by
  unfold prepare
  cases s.seq with
  | localKey => unfold prepareLocalKey; dsimp only; split <;> exact ⟨_, _, _, _, rfl⟩
  | header => unfold prepareHeader; dsimp only; split <;> exact ⟨_, _, _, _, rfl⟩
  | payload => unfold preparePayload; dsimp only; split <;> exact ⟨_, _, _, _, rfl⟩
  | trailer => unfold prepareTrailer; dsimp only; split <;> exact ⟨_, _, _, _, rfl⟩
  | _ => exact .refl s

/-- RXLEN after an exchange is the reply length of a command (R37, R91). -/
theorem rxOk_replyLenOf {t : State} (q : SeqStep) (h : t.rxlen = BitVec.ofNat 3 (replyLenOf q)) : RxOk t := by
  unfold RxOk
  rw [h]
  cases q <;> decide

/-- An exchange of a well-formed request, answered with as many bytes as some step expects. -/
theorem keeps_exchanged {tx : List Byte} {q : SeqStep} {s : State}
    (hreq : Request.wellFormed ⟨tx, replyLenOf q, s.params.xchgTimeout⟩ = true) :
    Keeps s (exchanged tx (replyLenOf q) s) where
  params := by simp [exchanged_frame tx (replyLenOf q) s]
  link _ h := by simpa [LinkOk, exchanged_frame tx (replyLenOf q) s] using h
  sticky := by
    rcases exchanged_status tx (replyLenOf q) s with ⟨-, hbits, -, -⟩ | ⟨-, hbits, -, -⟩
    · rw [hbits, BitVec.and_self]
    · rw [hbits, and_or_self_left]
  err h := by
    rcases exchanged_status tx (replyLenOf q) s with ⟨-, hbits, hlast, -⟩ | ⟨-, hbits, hlast, -⟩
    · simpa only [ErrOk, hbits, hlast] using h
    · exact errOk_of_raised hbits hlast
  rx _ := rxOk_replyLenOf q (by simp [exchanged_frame tx (replyLenOf q) s])
  requests h := by
    have hrequests : (exchanged tx (replyLenOf q) s).ports.requests
        = ⟨tx, replyLenOf q, s.params.xchgTimeout⟩ :: s.ports.requests := by
      simp [exchanged_frame tx (replyLenOf q) s]
    unfold RequestsOk
    rw [hrequests]
    exact List.forall_mem_cons.mpr ⟨hreq, h⟩
  image h := by simpa [ImageOk, exchanged_frame tx (replyLenOf q) s] using h

/-- The exchange of a sequencer step, with what precedes it. -/
theorem keeps_exchanged_prepare {s : State} (h : isExchange s.seq) :
    Keeps s (exchanged (prepare s).2 (replyLenOf s.seq) (prepare s).1) := by
  obtain ⟨k, c, l, d, hprep⟩ := prepare_keysOnly s
  have before : Keeps s (prepare s).1 := .of_ledger (by rw [hprep]; rfl)
  exact before.trans (keeps_exchanged (prepare_request_wellFormed h _))

/-! ### The session -/

/-- The probe touches none of these registers (R325). -/
theorem ledger_probe (s : State) : ledger (probe s).2 = ledger s := by
  cases hp : s.ports.probes with
  | nil => rw [probe_of_none hp]; rfl
  | cons p rest => rw [probe_of_scripted hp]; rfl

/-- An action that raises one error and writes no other of these registers. -/
theorem Keeps.of_raise {s t : State} (e : ErrCode) (h : ledger t = ledger (raise e s)) : Keeps s t :=
  (keeps_raise e s).trans (.of_ledger h)

theorem keeps_waitingIteration (s : State) : Keeps s (waitingIteration s) := by
  unfold waitingIteration
  split
  · exact .of_ledger rfl
  · exact .of_raise (linkError s.lstat) rfl

theorem keeps_waitingAction (s : State) : Keeps s (waitingAction s) := by
  unfold waitingAction
  split
  · exact keeps_waitingIteration s
  · split
    · exact (keeps_waitingIteration _).from_ledger rfl
    · exact .of_ledger rfl

theorem keeps_uploadIteration (s : State) : Keeps s (uploadIteration s) := by
  unfold uploadIteration
  split
  · exact .of_ledger rfl
  · exact .of_raise (linkError s.lstat) rfl

theorem keeps_uploadBegin (s : State) : Keeps s (uploadBegin s) := by
  unfold uploadBegin
  dsimp only
  split
  · exact .of_raise .malformedImage rfl
  · split
    · exact .of_raise .imageTooLarge rfl
    · split
      · exact .of_raise .windowTooSmall rfl
      · exact (keeps_uploadIteration _).from_ledger rfl

theorem keeps_readyAction (s : State) : Keeps s (readyAction s) := by
  unfold readyAction
  split
  · exact keeps_uploadIteration s
  · split
    · exact .of_raise (linkError s.lstat) rfl
    · split
      · exact keeps_uploadBegin s
      · exact .of_ledger rfl

theorem keeps_idleAction (s : State) : Keeps s (idleAction s) := by
  unfold idleAction
  split
  · exact (keeps_linkDrop s).trans (.of_ledger rfl)
  · split
    · exact .of_raise (linkError s.lstat) rfl
    · exact .of_ledger rfl

theorem keeps_stateAction (s : State) : Keeps s (stateAction s) := by
  unfold stateAction
  cases s.ustate with
  | waitingForPeer => exact keeps_waitingAction s
  | peerReady => exact keeps_readyAction s
  | idle => exact keeps_idleAction s

/-- The probe's step in three parts: the probe, the link update, the state action (R291). -/
theorem probeStep_eq (s : State) : probeStep s = stateAction (linkUpdate (probe s).1 (probe s).2) := rfl

theorem keeps_probeStep (s : State) : Keeps s (probeStep s) := by
  rw [probeStep_eq]
  exact ((Keeps.of_ledger (ledger_probe s)).trans (keeps_linkUpdate _ _)).trans (keeps_stateAction _)

theorem keeps_payloadOrTrailer (s : State) : Keeps s (payloadOrTrailer s) := by
  unfold payloadOrTrailer
  split <;> exact .of_ledger rfl

theorem keeps_afterHeader (s : State) : Keeps s (afterHeader s) := by
  unfold afterHeader
  dsimp only
  split
  · exact .of_ledger rfl
  · exact (keeps_payloadOrTrailer _).from_ledger rfl

theorem keeps_afterPayload (s : State) : Keeps s (afterPayload s) := by
  unfold afterPayload
  exact (keeps_payloadOrTrailer _).from_ledger rfl

theorem keeps_afterStatus (s : State) : Keeps s (afterStatus s) := by
  unfold afterStatus
  dsimp only
  split
  · split <;> exact .of_ledger rfl
  · exact .of_ledger rfl

theorem keeps_afterIdleRead (s : State) : Keeps s (afterIdleRead s) := by
  unfold afterIdleRead
  dsimp only
  split <;> exact .of_ledger rfl

theorem keeps_unlessAborted {s : State} {effect : State → State} (h : Keeps s (effect s)) :
    Keeps s (unlessAborted s effect) := by
  unfold unlessAborted
  split
  · exact .of_raise .transferFailure rfl
  · exact h

theorem keeps_resume (q : SeqStep) (s : State) : Keeps s (resume q s) := by
  cases q with
  | hsStatus => exact keeps_afterStatus s
  | remoteKey => exact keeps_unlessAborted (.of_ledger rfl)
  | localKey => exact keeps_unlessAborted (.of_ledger rfl)
  | header => exact keeps_unlessAborted (keeps_afterHeader s)
  | payload => exact keeps_unlessAborted (keeps_afterPayload s)
  | trailer => exact keeps_unlessAborted (.of_ledger rfl)
  | ack => exact keeps_unlessAborted (.of_ledger rfl)
  | idleRead => exact keeps_afterIdleRead s
  | _ => exact .of_ledger rfl

/-! ### The operation port -/

/-- Every presented triple is an instruction of the operation port (R90, R96, R98). -/
theorem decodeTriple_port (o : OpTriple) : (decodeTriple o).port = .op := by
  unfold decodeTriple
  split
  · unfold opcodeInstr; split <;> rfl
  · unfold reservedMbz; split <;> rfl

/-- What an operation can do to the state (R96, R97). -/
inductive OpEffect (s : State) : State → Prop where
  | refused (e : ErrCode) : OpEffect s (reject e s)
  | nop : OpEffect s (answer .accepted s)
  /-- OPR and some of the datapath's registers -/
  | datapath (free : opBlocked s = false) (v k c l r : Word) :
    OpEffect s (accept v { s with key := k, csum := c, localKey := l, remoteKey := r })
  | poll (free : opBlocked s = false) (p : Word) : OpEffect s (accept (linkWord (linkUpdate p s)) (linkUpdate p s))
  | drop (free : opBlocked s = false) : OpEffect s (accept (linkWord (linkDrop s)) (linkDrop s))

/-- OpBusy, or else the operation's own effect. -/
theorem OpEffect.of_unlessBlocked {s t : State} {f : State → State} (h : unlessBlocked s f = .next t)
    (hf : opBlocked s = false → OpEffect s (f s)) : OpEffect s t := by
  rcases unlessBlocked_next h with ⟨-, rfl⟩ | ⟨hfree, rfl⟩
  · exact .refused .opBusy
  · exact hf hfree

theorem exec_op_effect {i : Instr} {s t : State} (hi : i.port = .op) (h : exec i s = .next t) : OpEffect s t := by
  cases i with
  | nop => cases h; exact .nop
  | csumInit => exact .of_unlessBlocked (show execCsumInit s = _ from h) fun hb => .datapath hb ..
  | csumFold w => exact .of_unlessBlocked (show execCsumFold w s = _ from h) fun hb => .datapath hb ..
  | csumFinal len => exact .of_unlessBlocked (show execCsumFinal len s = _ from h) fun hb => .datapath hb ..
  | kdf w =>
    refine .of_unlessBlocked (show execKdf w s = _ from h) fun hb => ?_
    split
    · exact .refused _
    · exact .datapath hb ..
  | rkey rw => exact .of_unlessBlocked (show execRkey rw s = _ from h) fun hb => .datapath hb ..
  | kseed => exact .of_unlessBlocked (show execKseed s = _ from h) fun hb => .datapath hb ..
  | kadv => exact .of_unlessBlocked (show execKadv s = _ from h) fun hb => .datapath hb ..
  | mask o w => exact .of_unlessBlocked (show execMask o w s = _ from h) fun hb => .datapath hb ..
  | crypt o w => exact .of_unlessBlocked (show execCrypt o w s = _ from h) fun hb => .datapath hb ..
  | imgrd o =>
    refine .of_unlessBlocked (show execImgrd o s = _ from h) fun hb => ?_
    split
    · exact .datapath hb ..
    · exact .refused _
  | payw o =>
    refine .of_unlessBlocked (show execPayw o s = _ from h) fun hb => ?_
    split
    · exact .datapath hb ..
    · exact .refused _
  | sealCsum len o => exact .of_unlessBlocked (show execSeal len o s = _ from h) fun hb => .datapath hb ..
  | lpoll p => exact .of_unlessBlocked (show execLpoll p s = _ from h) fun hb => .poll hb p
  | ldrop => exact .of_unlessBlocked (show execLdrop s = _ from h) fun hb => .drop hb
  | wireReset => cases hi
  | wireStatus => cases hi
  | wireRead => cases hi
  | wireWrite v => cases hi
  | _ => cases h; exact .refused _

theorem OpEffect.keeps {s t : State} (h : OpEffect s t) : Keeps s t := by
  cases h with
  | refused e => exact .of_raise e rfl
  | nop => exact .of_ledger rfl
  | datapath => exact .of_ledger rfl
  | poll _ p => exact (keeps_linkUpdate p s).trans (.of_ledger rfl)
  | drop => exact (keeps_linkDrop s).trans (.of_ledger rfl)

/-! ### The image port and the frame tick -/

theorem keeps_frameTick (l : Triggers) (s : State) : Keeps s (frameTick l s) := by
  unfold frameTick
  split <;> exact .of_ledger rfl

theorem keeps_setImageLen (n : Word) (s : State) : Keeps s (setImageLen n s) :=
  .of_ledger (by rw [setImageLen_eq, markImageChange_eq]; rfl)

/-- A written image byte changes none of these registers but the image, which stays canonical. -/
theorem keeps_setImageByte (a : Word) (b : Byte) (s : State) : Keeps s (setImageByte a b s) := by
  have same : ledger { setImageByte a b s with ports := s.ports } = ledger s := by
    rw [setImageByte_eq, markImageChange_eq]; rfl
  have k := Keeps.of_ledger same
  exact { k with
    requests := fun h => by rw [setImageByte_eq]; exact h
    image := wf_setImageByte a b s }

/-! ### Every step but a RESET -/

theorem keeps_takeInput (s : State) : Keeps s (takeInput s) := .of_ledger rfl

theorem step_keeps {s t : State} (h : step s = .next t) (hreset : ∀ rest, s.ports.inputs ≠ .reset :: rest) :
    Keeps s t := by
  rcases step_next_cases h with ⟨u, hu, hown⟩ | ⟨o, _, -, hexec⟩ | ⟨l, _, -, rfl⟩ | ⟨rest, hin, -⟩ | ⟨n, _, -, rfl⟩
    | ⟨a, b, _, -, rfl⟩
  · have input : Keeps s u := by rcases hu with ⟨-, rfl⟩ | ⟨-, rfl⟩ <;> exact .of_ledger rfl
    refine input.trans ?_
    rcases hown with ⟨-, rfl⟩ | ⟨-, rfl⟩ | ⟨hx, -, rfl⟩
    · exact .of_ledger rfl
    · exact keeps_probeStep u
    · exact (keeps_exchanged_prepare hx).trans (keeps_resume _ _)
  · exact (keeps_takeInput s).trans (exec_op_effect (decodeTriple_port o) hexec).keeps
  · exact (keeps_takeInput s).trans (keeps_frameTick l _)
  · exact absurd hin (hreset rest)
  · exact (keeps_takeInput s).trans (keeps_setImageLen n _)
  · exact (keeps_takeInput s).trans (keeps_setImageByte a b _)

/-- A RESET's step, from its input alone. -/
theorem step_reset_next {s t : State} {rest : List Input} (hin : s.ports.inputs = .reset :: rest)
    (h : step s = .next t) : t = resetAll (takeInput s) := by
  rw [step_of_reset hin] at h
  cases h
  rfl

theorem step_params {s t : State} (h : step s = .next t) : t.params = s.params := by
  by_cases hreset : ∃ rest, s.ports.inputs = .reset :: rest
  · obtain ⟨rest, hin⟩ := hreset
    rw [step_reset_next hin h]
    rfl
  · exact (step_keeps h (not_exists.mp hreset)).params

/-- Settles O31: every step but a RESET `Keeps`. -/
theorem errorBitsAreSticky : Obligations.ErrorBitsAreSticky :=
  fun _ _ h hreset => (step_keeps h hreset).sticky

/-! ## The link register (R30) -/

theorem linkOk_resetAll (s : State) : LinkOk (resetAll s) := ⟨iff_of_true rfl rfl, Nat.zero_le _⟩

theorem step_linkOk {s t : State} (h : step s = .next t) (hseed : s.params.debounceSeed ≠ 0#8) (hs : LinkOk s) :
    LinkOk t := by
  by_cases hreset : ∃ rest, s.ports.inputs = .reset :: rest
  · obtain ⟨rest, hin⟩ := hreset
    rw [step_reset_next hin h]
    exact linkOk_resetAll _
  · exact (step_keeps h (not_exists.mp hreset)).link hseed hs

theorem reachable_linkOk {s : State} (h : Reachable s) (hseed : s.params.debounceSeed ≠ 0#8) : LinkOk s := by
  induction h with
  | start hstart =>
    obtain ⟨params, ports, rfl, -, -⟩ := hstart
    exact linkOk_resetAll (State.resetWith params ports)
  | step _ hstep ih =>
    rw [step_params hstep] at hseed
    exact step_linkOk hstep hseed (ih hseed)

end Sys2Proof.Machine
end

section
/-! PROOFS. What the read-back port shows (10_state.md R21, R30 to R37, R103), and the invariant of the link
register. -/

namespace Sys2Proof.Machine

/-! ## The fields of the status words -/

/-- Where each field stands in SSTAT; reserved bits are 0 (R31). -/
theorem sstatWord_fields (s : State) :
    (sstatWord s).extractLsb' 0 2 = s.ustate.code ∧ (sstatWord s).extractLsb' 2 2 = s.hsst.code
      ∧ (sstatWord s).getLsbD 4 = s.hsp ∧ (sstatWord s).extractLsb' 5 3 = 0#3
      ∧ (sstatWord s).extractLsb' 8 4 = s.uph.code ∧ (sstatWord s).extractLsb' 12 4 = 0#4
      ∧ (sstatWord s).getLsbD 16 = s.busy ∧ (sstatWord s).getLsbD 17 = s.hasData
      ∧ (sstatWord s).extractLsb' 18 14 = 0#14 := by
  simp (disch := omega) only [sstatWord, BitVec.extractLsb'_append_eq_of_add_le, BitVec.extractLsb'_append_eq_of_le,
    BitVec.getLsbD_append, Nat.reduceSub, BitVec.extractLsb'_eq_self]
  simp

/-- Where each field stands in ERR (R32). -/
theorem errWord_fields (s : State) :
    (errWord s).extractLsb' 0 10 = s.errBits ∧ (errWord s).extractLsb' 10 6 = 0#6
      ∧ (errWord s).extractLsb' 16 8 = lastErrCode s.lastErr ∧ (errWord s).extractLsb' 24 8 = 0#8 := by
  simp (disch := omega) only [errWord, BitVec.extractLsb'_append_eq_of_add_le, BitVec.extractLsb'_append_eq_of_le,
    Nat.reduceSub, BitVec.extractLsb'_eq_self, and_self]

/-- Where each field stands in RXX (R37). -/
theorem rxxWord_fields (s : State) :
    (rxxWord s).extractLsb' 0 8 = s.rx.b4 ∧ (rxxWord s).extractLsb' 8 3 = s.rxlen
      ∧ (rxxWord s).extractLsb' 11 21 = 0#21 := by
  simp (disch := omega) only [rxxWord, BitVec.extractLsb'_append_eq_of_add_le, BitVec.extractLsb'_append_eq_of_le,
    Nat.reduceSub, BitVec.extractLsb'_eq_self, and_self]

/-- Where each field stands in LINK (R30). -/
theorem linkWord_fields (s : State) :
    (linkWord s).extractLsb' 0 2 = s.lstat.code ∧ (linkWord s).extractLsb' 2 6 = 0#6
      ∧ (linkWord s).extractLsb' 8 8 = s.dcnt ∧ (linkWord s).extractLsb' 16 16 = 0#16 := by
  simp (disch := omega) only [linkWord, BitVec.extractLsb'_append_eq_of_add_le, BitVec.extractLsb'_append_eq_of_le,
    Nat.reduceSub, BitVec.extractLsb'_eq_self, and_self]

/-- An index that names no register (R21). -/
theorem readBack_unmapped (s : State) {i : BitVec 5} (h : 17 ≤ i.toNat) : readBack s i = 0#32 := by
  obtain ⟨n, hn⟩ := Nat.exists_eq_add_of_le' h
  simp only [readBack, hn]

/-! ## The statements -/

/-- Settles O32: the fields of each status word, the codes case by case, and the plain registers by the index map. -/
theorem readBackLayout : Obligations.ReadBackLayout := by
  intro s
  obtain ⟨hustate, hhsst, hhsp, hres5, huph, hres12, hbusy, hdata, hres18⟩ := sstatWord_fields s
  obtain ⟨hbits, hres10, hlast, hres24⟩ := errWord_fields s
  obtain ⟨hb4, hrxlen, hres11⟩ := rxxWord_fields s
  refine ⟨hustate.trans ?_, hhsst.trans ?_, hhsp, hres5, huph.trans ?_, hres12, hbusy, hdata, hres18, hbits, hres10,
    hlast.trans ?_, hres24, rfl, hb4, hrxlen, hres11, rfl, rfl, rfl, rfl, rfl, rfl, rfl, rfl, rfl, rfl, rfl, rfl,
    fun _ => readBack_unmapped s⟩
  · cases s.ustate <;> rfl
  · cases s.hsst <;> rfl
  · cases s.uph <;> rfl
  · cases s.lastErr with
    | none => rfl
    | some e => cases e <;> rfl

/-- Settles O34: LINK's fields, and `reachable_linkOk`. -/
theorem linkRegisterLayoutAndInvariant : Obligations.LinkRegisterLayoutAndInvariant := by
  refine ⟨linkWord_fields, ?_, rfl, rfl, rfl, fun s h hseed => reachable_linkOk h hseed⟩
  intro l
  cases l <;> rfl

end Sys2Proof.Machine
end

section
/-! PROOFS. The invariant of the session (10_state.md R26, R27, R31, R39, R41): the frame action's registers, the
sequencer's fields, the cursor and the window. -/

namespace Sys2Proof.Machine

/-! ## The session's registers -/

/-- The registers that the invariant of the session speaks of. -/
def control (s : State) : Config.Params × SeqStep × Bool × Bool × Bool × UploadPhase × UploadState × HandshakeState
    × Bool × LinkStatus × Word × Word × Word :=
  (s.params, s.seq, s.atfb, s.busy, s.xpend, s.uph, s.ustate, s.hsst, s.hsp, s.lstat, s.window, s.imgLen, s.cursor)

/-- The invariant of the session. -/
structure ControlOk (s : State) : Prop where
  frame : FrameOk s
  sequencer : SequencerOk s
  cursor : CursorOk s

theorem ControlOk.of_control {s t : State} (hs : ControlOk s) (h : control t = control s) : ControlOk t := by
  simp only [control, Prod.mk.injEq] at h
  obtain ⟨hparams, hseq, hatfb, hbusy, hxpend, huph, hustate, hhsst, hhsp, hlstat, hwindow, himgLen, hcursor⟩ := h
  have hactive : uploadActive t = uploadActive s := by simp only [uploadActive, huph]
  exact
    { frame := by simpa only [FrameOk, hseq, hatfb, hbusy, hxpend] using hs.frame
      sequencer := by
        simpa only [SequencerOk, hseq, huph, hactive, hustate, hhsst, hhsp, hlstat] using hs.sequencer
      cursor := by
        simpa only [CursorOk, hparams, huph, hactive, hwindow, himgLen, hcursor] using hs.cursor }

theorem seq_of_control {s t : State} (h : control t = control s) : t.seq = s.seq :=
  congrArg (fun c => c.2.1) h

/-! ## The sequencer's fields at each kind of step

`SequencerOk` is one conjunction for every position of the sequencer. At a given kind of step it comes down to a few
fields. -/

/-- USTATE, HSST and UPH between two frame actions (R200, R254, R290). -/
def SessionOk (s : State) : Prop :=
  match s.ustate with
  | .waitingForPeer => uploadActive s = false
  | .peerReady =>
    (s.uph = .handshake ∧ s.hsst = .awaitingBios) ∨ (uploadActive s = false ∧ s.hsst = .ready)
  | .idle => uploadActive s = false ∧ s.hsst = .ready

/-- An upload is active in its handshake and in its steps 2 to 7 (R97). -/
theorem uploadActive_eq (s : State) : uploadActive s = (s.uph == .handshake || transferPhase s.uph) := by
  unfold uploadActive
  cases s.uph <;> rfl

theorem transferPhase_handshake : transferPhase .handshake = false := rfl

/-- The phase of a sequencer step is one of an upload's steps 2 to 7. -/
theorem transferPhase_of_phaseOf {q : SeqStep} {p : UploadPhase} (h : phaseOf q = some p) : transferPhase p = true := by
  cases q <;> cases h <;> rfl

/-- A sequencer step with a phase is an exchange, and none of a handshake or of Idle. -/
theorem ne_of_phaseOf {q : SeqStep} {p : UploadPhase} (h : phaseOf q = some p) :
    q ≠ .none ∧ q ≠ .probe ∧ q ≠ .hsReset ∧ q ≠ .hsStatus ∧ q ≠ .idleRead ∧ q ≠ .idleWrite := by
  cases q <;> cases h <;> decide

/-- Outside the steps 2 to 7 of an upload: USTATE, HSST and UPH are as between two frame actions, and what else the
position of the sequencer asks for. -/
theorem sequencerOk_iff_of_phaseOf_none {s : State} (h : phaseOf s.seq = none) :
    SequencerOk s ↔ SessionOk s ∧ (s.hsp = true ↔ s.seq = .hsStatus)
      ∧ (s.seq = .hsReset ∨ s.seq = .hsStatus → s.hsst = .awaitingBios)
      ∧ (s.seq = .idleRead ∨ s.seq = .idleWrite → s.ustate = .idle)
      ∧ (s.seq ≠ .none → s.seq ≠ .probe → s.lstat = .connected) := by
  unfold SequencerOk SessionOk
  rw [uploadActive_eq, h]
  cases hu : s.ustate with
  | waitingForPeer => grind [transferPhase_handshake]
  | peerReady => grind [transferPhase_handshake]
  | idle => grind [transferPhase_handshake]

/-- Between two frame actions, and before the probe. -/
theorem sequencerOk_iff_of_resting {s : State} (h : s.seq = .none ∨ s.seq = .probe) :
    SequencerOk s ↔ SessionOk s ∧ s.hsp = false := by
  rcases h with h | h <;> rw [sequencerOk_iff_of_phaseOf_none (h ▸ rfl)] <;> simp [h]

/-- In a handshake iteration. -/
theorem sequencerOk_iff_of_handshake {s : State} (h : s.seq = .hsReset ∨ s.seq = .hsStatus) :
    SequencerOk s ↔ SessionOk s ∧ s.hsst = .awaitingBios ∧ (s.hsp = true ↔ s.seq = .hsStatus)
      ∧ s.lstat = .connected := by
  rcases h with h | h <;> rw [sequencerOk_iff_of_phaseOf_none (h ▸ rfl)] <;> simp [h, and_left_comm]

/-- In the exchanges of Idle. -/
theorem sequencerOk_iff_of_idle {s : State} (h : s.seq = .idleRead ∨ s.seq = .idleWrite) :
    SequencerOk s ↔ s.ustate = .idle ∧ SessionOk s ∧ s.hsp = false ∧ s.lstat = .connected := by
  rcases h with h | h <;> rw [sequencerOk_iff_of_phaseOf_none (h ▸ rfl)] <;> simp [h, and_left_comm]

/-- In the steps 2 to 7 of an upload. -/
theorem sequencerOk_iff_of_transfer {s : State} {p : UploadPhase} (h : phaseOf s.seq = some p) :
    SequencerOk s ↔ s.uph = p ∧ s.ustate = .peerReady ∧ s.hsst = .ready ∧ s.hsp = false ∧ s.lstat = .connected := by
  have hp : transferPhase p = true := transferPhase_of_phaseOf h
  obtain ⟨hnone, hprobe, hreset, hstatus, hread, hwrite⟩ := ne_of_phaseOf h
  unfold SequencerOk
  rw [uploadActive_eq, h]
  grind [transferPhase_handshake]

theorem sessionOk_of_waiting {s : State} (h : s.ustate = .waitingForPeer) : SessionOk s ↔ uploadActive s = false := by
  simp only [SessionOk, h]

theorem sessionOk_of_peerReady {s : State} (h : s.ustate = .peerReady) :
    SessionOk s ↔ (s.uph = .handshake ∧ s.hsst = .awaitingBios) ∨ (uploadActive s = false ∧ s.hsst = .ready) := by
  simp only [SessionOk, h]

theorem sessionOk_of_idle {s : State} (h : s.ustate = .idle) :
    SessionOk s ↔ uploadActive s = false ∧ s.hsst = .ready := by
  simp only [SessionOk, h]

/-- The session's fields between two frame actions and before the probe. -/
theorem ControlOk.resting {s : State} (hs : ControlOk s) (hq : s.seq = .none ∨ s.seq = .probe) :
    SessionOk s ∧ s.hsp = false :=
  (sequencerOk_iff_of_resting hq).mp hs.sequencer

theorem ControlOk.nothing_in_flight {s : State} (hs : ControlOk s) : s.xpend = false := hs.frame.2.2

theorem ControlOk.window_aligned {s : State} (hs : ControlOk s) : s.window &&& 7#32 = 0#32 := hs.cursor.1

/-! ## Words as offsets -/

theorem aligned4_iff (o : Word) : aligned4 o = true ↔ o.toNat % 4 = 0 := by
  have hmod : (o &&& 3#32).toNat = o.toNat % 4 := by
    rw [BitVec.toNat_and]
    exact Nat.and_two_pow_sub_one_eq_mod o.toNat 2
  rw [aligned4, beq_iff_eq, ← BitVec.toNat_inj, hmod]
  rfl

theorem and_seven_eq_zero_iff (w : Word) : w &&& 7#32 = 0#32 ↔ w.toNat % 8 = 0 := by
  have hmod : (w &&& 7#32).toNat = w.toNat % 8 := by
    rw [BitVec.toNat_and]
    exact Nat.and_two_pow_sub_one_eq_mod w.toNat 3
  rw [← BitVec.toNat_inj, hmod]
  rfl

/-- A transfer window is a multiple of 8 (R251). -/
theorem windowOf_and_seven (len : Word) : windowOf len &&& 7#32 = 0#32 := by
  rw [windowOf, BitVec.and_assoc, show ~~~7#32 &&& 7#32 = 0#32 from rfl, BitVec.and_zero]

/-- An aligned offset below an aligned bound steps to an aligned offset that is at most the bound, without wrapping. -/
theorem aligned4_step {c b : Word} (hc : aligned4 c = true) (hb : aligned4 b = true) (h : c < b) :
    aligned4 (c + 4#32) = true ∧ c ≤ c + 4#32 ∧ c + 4#32 ≤ b := by
  rw [aligned4_iff] at hc hb
  have hlt : c.toNat < b.toNat := h
  have hbound : b.toNat < 2 ^ 32 := b.isLt
  have hadd : (c + 4#32).toNat = c.toNat + 4 := by
    rw [BitVec.toNat_add, show (4#32).toNat = 4 from rfl]
    omega
  rw [aligned4_iff, BitVec.le_def, BitVec.le_def, hadd]
  omega

/-! ## CURSOR and WINDOW -/

/-- Outside an upload that is active or done, only the window's alignment counts. -/
theorem cursorOk_of_inactive {s : State} (hwindow : s.window &&& 7#32 = 0#32) (hactive : uploadActive s = false)
    (hdone : s.uph ≠ .done) : CursorOk s := by
  have hne : ∀ p, transferPhase p = true → s.uph ≠ p := by
    rintro _ hp rfl
    rw [uploadActive_eq, hp, Bool.or_true] at hactive
    cases hactive
  refine ⟨hwindow, fun h => ?_, fun h => absurd h (hne _ rfl), fun h => absurd h (hne _ rfl), ?_⟩
  · rw [hactive] at h
    cases h
  · rintro (h | h | h)
    · exact absurd h (hne _ rfl)
    · exact absurd h (hne _ rfl)
    · exact absurd h hdone

/-- A step of an active upload to a phase and a cursor that fit together. -/
theorem cursorOk_advance {s : State} {p : UploadPhase} {c : Word} (h : CursorOk s) (hactive : uploadActive s = true)
    (hheader : p = .header → aligned4 c = true ∧ c < s.params.headerLen)
    (hpayload : p = .payload → aligned4 c = true ∧ s.params.headerLen ≤ c ∧ c < s.window)
    (hend : p = .trailer ∨ p = .ack ∨ p = .done → c = s.window) :
    CursorOk { s with uph := p, cursor := c } := by
  obtain ⟨hwindow, hupload, -, -, -⟩ := h
  exact ⟨hwindow, fun _ => hupload hactive, hheader, hpayload, hend⟩

/-! ## How a frame action goes on and ends -/

theorem frameOk_goOn {s : State} {q : SeqStep} (h : FrameOk s) (hs : s.seq ≠ .none) (hq : q ≠ .none) :
    FrameOk (goOn q s) := by
  obtain ⟨hatfb, hbusy, hxpend⟩ := h
  exact ⟨iff_of_false (fun ht => hs (hatfb.mp ht)) hq, hbusy, hxpend⟩

/-- A frame action ends with the session's fields as they are between two frame actions (R291). -/
theorem controlOk_endFrame {s : State} (hxpend : s.xpend = false) (hsession : SessionOk s) (hhsp : s.hsp = false)
    (hcursor : CursorOk s) : ControlOk (endFrame s) where
  frame := ⟨iff_of_true rfl rfl, rfl, hxpend⟩
  sequencer := (sequencerOk_iff_of_resting (.inl rfl)).mpr ⟨hsession, hhsp⟩
  cursor := hcursor

/-- An upload goes on with another of its steps 2 to 7. -/
theorem controlOk_enterPhase {s : State} {q : SeqStep} {p : UploadPhase} {c : Word} (hs : ControlOk s)
    (hseq : s.seq ≠ .none) (hq : phaseOf q = some p) (hustate : s.ustate = .peerReady) (hhsst : s.hsst = .ready)
    (hhsp : s.hsp = false) (hlstat : s.lstat = .connected) (hcursor : CursorOk { s with uph := p, cursor := c }) :
    ControlOk (enterPhase p q { s with cursor := c }) where
  frame := frameOk_goOn hs.frame hseq (ne_of_phaseOf hq).1
  sequencer := (sequencerOk_iff_of_transfer hq).mpr ⟨rfl, hustate, hhsst, hhsp, hlstat⟩
  cursor := hcursor

/-! ## The state actions

Each starts before an exchange of the frame action, right after the probe (R291). -/

/-- A handshake iteration begins on a Connected link while HSST is AwaitingBios (R202). -/
theorem controlOk_beginIteration {s : State} (hs : ControlOk s) (hq : s.seq = .probe) (hhsst : s.hsst = .awaitingBios)
    (hlstat : s.lstat = .connected) : ControlOk (beginIteration s) where
  frame := frameOk_goOn hs.frame (hq ▸ by decide) (by decide)
  sequencer := by
    obtain ⟨hsession, -⟩ := hs.resting (.inr hq)
    exact Iff.mpr (sequencerOk_iff_of_handshake (.inl rfl)) ⟨hsession, hhsst, by simp, hlstat⟩
  cursor := hs.cursor

theorem controlOk_waitingIteration {s : State} (hs : ControlOk s) (hq : s.seq = .probe)
    (hu : s.ustate = .waitingForPeer) (hhsst : s.hsst = .awaitingBios) : ControlOk (waitingIteration s) := by
  obtain ⟨hsession, -⟩ := hs.resting (.inr hq)
  unfold waitingIteration
  split
  case isTrue hlstat => exact controlOk_beginIteration hs hq hhsst hlstat
  case isFalse =>
    have hinactive := (sessionOk_of_waiting hu).mp hsession
    exact controlOk_endFrame hs.nothing_in_flight (Iff.mpr (sessionOk_of_waiting hu) hinactive) rfl hs.cursor

theorem controlOk_waitingAction {s : State} (hs : ControlOk s) (hq : s.seq = .probe)
    (hu : s.ustate = .waitingForPeer) : ControlOk (waitingAction s) := by
  obtain ⟨hsession, hhsp⟩ := hs.resting (.inr hq)
  have hinactive := (sessionOk_of_waiting hu).mp hsession
  have started : ControlOk (startHandshake s) :=
    { frame := hs.frame
      sequencer := Iff.mpr (sequencerOk_iff_of_resting (.inr hq)) ⟨Iff.mpr (sessionOk_of_waiting hu) hinactive, rfl⟩
      cursor := hs.cursor }
  unfold waitingAction
  split
  case isTrue hhsst => exact controlOk_waitingIteration hs hq hu hhsst
  case isFalse =>
    split
    · exact controlOk_waitingIteration started hq hu rfl
    · exact controlOk_endFrame hs.nothing_in_flight hsession hhsp hs.cursor

/-- A handshake iteration of an upload; an abort ends the upload in WaitingForPeer (R254, R293). -/
theorem controlOk_uploadIteration {s : State} (hs : ControlOk s) (hq : s.seq = .probe) (huph : s.uph = .handshake) :
    ControlOk (uploadIteration s) := by
  obtain ⟨-, -, -, hhsst, -⟩ := hs.sequencer
  unfold uploadIteration
  split
  case isTrue hlstat => exact controlOk_beginIteration hs hq (hhsst huph) hlstat
  case isFalse =>
    exact controlOk_endFrame hs.nothing_in_flight (Iff.mpr (sessionOk_of_waiting rfl) rfl) rfl
      (cursorOk_of_inactive hs.window_aligned rfl (by rintro ⟨⟩))

/-- A rejected image ends the upload in PeerReady (R252, R293). -/
theorem controlOk_rejectImage (e : ErrCode) {s : State} (hxpend : s.xpend = false) (hu : s.ustate = .peerReady)
    (hhsst : s.hsst = .ready) (hhsp : s.hsp = false) (hwindow : s.window &&& 7#32 = 0#32) :
    ControlOk (rejectImage e s) :=
  controlOk_endFrame hxpend (Iff.mpr (sessionOk_of_peerReady hu) (.inr ⟨rfl, hhsst⟩)) hhsp
    (cursorOk_of_inactive hwindow rfl (by rintro ⟨⟩))

theorem controlOk_uploadBegin {s : State} (hs : ControlOk s) (hq : s.seq = .probe) (hu : s.ustate = .peerReady)
    (hhsst : s.hsst = .ready) (hhsp : s.hsp = false) : ControlOk (uploadBegin s) := by
  have hxpend := hs.nothing_in_flight
  unfold uploadBegin
  dsimp only
  split
  · exact controlOk_rejectImage _ hxpend hu hhsst hhsp hs.window_aligned
  case isFalse haligned =>
    split
    · exact controlOk_rejectImage _ hxpend hu hhsst hhsp hs.window_aligned
    · split
      · exact controlOk_rejectImage _ hxpend hu hhsst hhsp (windowOf_and_seven _)
      case isFalse hwindow =>
        refine controlOk_uploadIteration ⟨hs.frame, ?_, ?_⟩ hq rfl
        · exact Iff.mpr (sequencerOk_iff_of_resting (.inr hq))
            ⟨Iff.mpr (sessionOk_of_peerReady hu) (.inl ⟨rfl, rfl⟩), rfl⟩
        · have hmin := BitVec.not_lt.mp hwindow
          refine ⟨windowOf_and_seven _, fun _ => ⟨hmin, rfl, Bool.not_eq_false _ ▸ haligned⟩, ?_, ?_, ?_⟩
          · rintro ⟨⟩
          · rintro ⟨⟩
          · rintro (⟨⟨⟩⟩ | ⟨⟨⟩⟩ | ⟨⟨⟩⟩)

theorem controlOk_readyAction {s : State} (hs : ControlOk s) (hq : s.seq = .probe) (hu : s.ustate = .peerReady) :
    ControlOk (readyAction s) := by
  obtain ⟨hsession, hhsp⟩ := hs.resting (.inr hq)
  unfold readyAction
  split
  case isTrue huph => exact controlOk_uploadIteration hs hq huph
  case isFalse huph =>
    obtain ⟨hinactive, hhsst⟩ := ((sessionOk_of_peerReady hu).mp hsession).resolve_left fun h => huph h.1
    split
    · exact controlOk_endFrame hs.nothing_in_flight (Iff.mpr (sessionOk_of_waiting rfl) hinactive) hhsp hs.cursor
    · split
      · exact controlOk_uploadBegin hs hq hu hhsst hhsp
      · exact controlOk_endFrame hs.nothing_in_flight hsession hhsp hs.cursor

theorem controlOk_idleAction {s : State} (hs : ControlOk s) (hq : s.seq = .probe) (hu : s.ustate = .idle) :
    ControlOk (idleAction s) := by
  obtain ⟨hsession, hhsp⟩ := hs.resting (.inr hq)
  obtain ⟨hinactive, -⟩ := (sessionOk_of_idle hu).mp hsession
  unfold idleAction
  split
  · exact controlOk_endFrame hs.nothing_in_flight (Iff.mpr (sessionOk_of_waiting rfl) hinactive) hhsp hs.cursor
  · split
    · exact controlOk_endFrame hs.nothing_in_flight (Iff.mpr (sessionOk_of_waiting rfl) hinactive) hhsp hs.cursor
    case isFalse hlstat =>
      exact
        { frame := frameOk_goOn hs.frame (hq ▸ by decide) (by decide)
          sequencer := Iff.mpr (sequencerOk_iff_of_idle (.inl rfl)) ⟨hu, hsession, hhsp, not_not.mp hlstat⟩
          cursor := hs.cursor }

theorem controlOk_stateAction {s : State} (hs : ControlOk s) (hq : s.seq = .probe) : ControlOk (stateAction s) := by
  unfold stateAction
  cases hu : s.ustate with
  | waitingForPeer => exact controlOk_waitingAction hs hq hu
  | peerReady => exact controlOk_readyAction hs hq hu
  | idle => exact controlOk_idleAction hs hq hu

/-- Between two frame actions and before the probe, the session does not depend on the link. -/
theorem controlOk_linkUpdate (p : Word) {s : State} (hs : ControlOk s) (hq : s.seq = .none ∨ s.seq = .probe) :
    ControlOk (linkUpdate p s) := by
  rw [linkUpdate_self]
  exact
    { frame := hs.frame
      sequencer := Iff.mpr (sequencerOk_iff_of_resting hq) (hs.resting hq)
      cursor := hs.cursor }

theorem controlOk_linkDrop {s : State} (hs : ControlOk s) (hq : s.seq = .none) : ControlOk (linkDrop s) where
  frame := hs.frame
  sequencer := Iff.mpr (sequencerOk_iff_of_resting (.inl hq)) (hs.resting (.inl hq))
  cursor := hs.cursor

/-- Nothing of the session changes at the probe, since nothing was in flight (R325). -/
theorem control_probe {s : State} (h : s.xpend = false) : control (probe s).2 = control s := by
  cases hp : s.ports.probes with
  | nil => rw [probe_of_none hp]; simp only [control, h]
  | cons p rest => rw [probe_of_scripted hp]; simp only [control, h]

theorem controlOk_probeStep {s : State} (hs : ControlOk s) (hq : s.seq = .probe) : ControlOk (probeStep s) := by
  have hcontrol : control (probe s).2 = control s := control_probe hs.nothing_in_flight
  have hseq : (probe s).2.seq = .probe := (seq_of_control hcontrol).trans hq
  have hseq' : (linkUpdate (probe s).1 (probe s).2).seq = .probe := by rw [linkUpdate_self]; exact hseq
  rw [probeStep_eq]
  exact controlOk_stateAction (controlOk_linkUpdate _ (hs.of_control hcontrol) (.inr hseq)) hseq'

/-! ## The exchanges -/

theorem KeysOnly.control {s t : State} (h : KeysOnly s t) : control t = control s := by
  obtain ⟨k, c, l, d, rfl⟩ := h
  rfl

/-- Whatever the response, an exchange leaves the session's registers alone. -/
theorem control_exchanged (tx : List Byte) (m : Nat) {s : State} (h : s.xpend = false) :
    control (exchanged tx m s) = control s := by
  simp [control, exchanged_frame tx m s, h]

/-- After the Reset exchange the iteration goes on with Status (R202). -/
theorem controlOk_afterReset {s : State} (hs : ControlOk s) (hq : s.seq = .hsReset) : ControlOk (afterReset s) where
  frame := frameOk_goOn hs.frame (hq ▸ by decide) (by decide)
  sequencer := by
    obtain ⟨hsession, hhsst, -, hlstat⟩ := (sequencerOk_iff_of_handshake (.inl hq)).mp hs.sequencer
    exact Iff.mpr (sequencerOk_iff_of_handshake (.inr rfl)) ⟨hsession, hhsst, iff_of_true rfl rfl, hlstat⟩
  cursor := hs.cursor

/-- READY ends the handshake: WaitingForPeer becomes PeerReady, an upload goes on with step 2; without READY the next
frame tries again (R202, R203, R254, R292). -/
theorem controlOk_afterStatus {s : State} (hs : ControlOk s) (hq : s.seq = .hsStatus) : ControlOk (afterStatus s) := by
  obtain ⟨hsession, hhsst, -, hlstat⟩ := (sequencerOk_iff_of_handshake (.inr hq)).mp hs.sequencer
  unfold afterStatus
  dsimp only
  split
  · split
    next hu =>
      have hinactive := (sessionOk_of_waiting hu).mp hsession
      exact controlOk_endFrame hs.nothing_in_flight (Iff.mpr (sessionOk_of_peerReady rfl) (.inr ⟨hinactive, rfl⟩)) rfl
        hs.cursor
    next hu =>
      have huph : s.uph = .handshake :=
        ((sessionOk_of_peerReady hu).mp hsession).elim And.left fun h => by rw [hhsst] at h; cases h.2
      have hactive : uploadActive s = true := by rw [uploadActive_eq, huph]; rfl
      have hcursor : CursorOk { s with uph := .remoteKey, cursor := s.cursor } :=
        cursorOk_advance hs.cursor hactive (by rintro ⟨⟩) (by rintro ⟨⟩) (by simp)
      exact
        { frame := frameOk_goOn hs.frame (hq ▸ by decide) (by decide)
          sequencer := Iff.mpr (sequencerOk_iff_of_transfer rfl) ⟨rfl, hu, rfl, rfl, hlstat⟩
          cursor := hcursor }
    next hu =>
      obtain ⟨-, hready⟩ := (sessionOk_of_idle hu).mp hsession
      rw [hhsst] at hready
      cases hready
  · exact controlOk_endFrame hs.nothing_in_flight hsession rfl hs.cursor

/-- The session's fields in the steps 2 to 7 of an upload. -/
theorem ControlOk.transfer {s : State} {p : UploadPhase} (hs : ControlOk s) (hp : phaseOf s.seq = some p) :
    s.uph = p ∧ s.ustate = .peerReady ∧ s.hsst = .ready ∧ s.hsp = false ∧ s.lstat = .connected :=
  (sequencerOk_iff_of_transfer hp).mp hs.sequencer

theorem ControlOk.uploadActive {s : State} {p : UploadPhase} (hs : ControlOk s) (hp : phaseOf s.seq = some p) :
    uploadActive s = true := by
  obtain ⟨huph, -⟩ := hs.transfer hp
  rw [uploadActive_eq, huph, transferPhase_of_phaseOf hp, Bool.or_true]

/-- A transfer failure ends the upload in PeerReady (R263, R351). -/
theorem controlOk_unlessAborted {s : State} {p : UploadPhase} {effect : State → State} (hs : ControlOk s)
    (hp : phaseOf s.seq = some p) (heffect : ControlOk (effect s)) : ControlOk (unlessAborted s effect) := by
  unfold unlessAborted
  split
  · obtain ⟨-, hu, hhsst, hhsp, -⟩ := hs.transfer hp
    exact controlOk_endFrame hs.nothing_in_flight (Iff.mpr (sessionOk_of_peerReady hu) (.inr ⟨rfl, hhsst⟩)) hhsp
      (cursorOk_of_inactive hs.window_aligned rfl (by rintro ⟨⟩))
  · exact heffect

/-- One of an upload's steps 2 to 7 leads to another with a cursor that fits it. -/
theorem controlOk_nextPhase {s : State} {p p' : UploadPhase} {q : SeqStep} {c : Word} (hs : ControlOk s)
    (hp : phaseOf s.seq = some p) (hq : phaseOf q = some p')
    (hheader : p' = .header → aligned4 c = true ∧ c < s.params.headerLen)
    (hpayload : p' = .payload → aligned4 c = true ∧ s.params.headerLen ≤ c ∧ c < s.window)
    (hend : p' = .trailer ∨ p' = .ack ∨ p' = .done → c = s.window) :
    ControlOk (enterPhase p' q { s with cursor := c }) := by
  obtain ⟨-, hu, hhsst, hhsp, hlstat⟩ := hs.transfer hp
  exact controlOk_enterPhase hs (ne_of_phaseOf hp).1 hq hu hhsst hhsp hlstat
    (cursorOk_advance hs.cursor (hs.uploadActive hp) hheader hpayload hend)

/-- Step 2 leads to step 3 (R255). -/
theorem controlOk_afterRemoteKey {s : State} (hs : ControlOk s) (hq : s.seq = .remoteKey) :
    ControlOk (afterRemoteKey s) := by
  have hp : phaseOf s.seq = some .remoteKey := by rw [hq]; rfl
  have next := controlOk_nextPhase (q := .localKey) (c := s.cursor) hs hp rfl (by rintro ⟨⟩) (by rintro ⟨⟩) (by simp)
  exact next.of_control rfl

/-- Step 3 leads to the first header word, since a header has one (R257, R258). -/
theorem controlOk_afterLocalKey {s : State} (hparams : ParamsOk s.params) (hs : ControlOk s) (hq : s.seq = .localKey) :
    ControlOk (afterLocalKey s) := by
  obtain ⟨-, -, hlen, -⟩ := hparams
  have hp : phaseOf s.seq = some .localKey := by rw [hq]; rfl
  have hpos : 0#32 < s.params.headerLen := by bv_omega
  have next := controlOk_nextPhase (q := .header) hs hp rfl (fun _ => ⟨rfl, hpos⟩) (by rintro ⟨⟩) (by simp)
  exact next.of_control rfl

/-- From the header's end on, the payload goes on below WINDOW and the trailer follows at WINDOW (R259). -/
theorem controlOk_payloadOrTrailer {s : State} {p : UploadPhase} {c : Word} (hs : ControlOk s)
    (hp : phaseOf s.seq = some p) (haligned : aligned4 c = true) (hlow : s.params.headerLen ≤ c)
    (hhigh : c ≤ s.window) :
    ControlOk (payloadOrTrailer { s with cursor := c }) := by
  unfold payloadOrTrailer
  split
  case isTrue hlt =>
    exact controlOk_nextPhase hs hp rfl (by rintro ⟨⟩) (fun _ => ⟨haligned, hlow, hlt⟩) (by simp)
  case isFalse hge =>
    have hc : c = s.window := BitVec.le_antisymm hhigh (BitVec.not_lt.mp hge)
    exact controlOk_nextPhase hs hp rfl (by rintro ⟨⟩) (by rintro ⟨⟩) fun _ => hc

/-- Step 4 after one word: the cursor stays in the header or leaves it at its end, inside the window (R258). -/
theorem controlOk_afterHeader {s : State} (hparams : ParamsOk s.params) (hs : ControlOk s) (hq : s.seq = .header) :
    ControlOk (afterHeader s) := by
  obtain ⟨-, hlen, -, hmin⟩ := hparams
  have hp : phaseOf s.seq = some .header := by rw [hq]; rfl
  obtain ⟨huph, -⟩ := hs.transfer hp
  obtain ⟨-, hupload, hheader, -, -⟩ := hs.cursor
  obtain ⟨haligned, hlt⟩ := hheader huph
  obtain ⟨hstep, -, hle⟩ := aligned4_step haligned hlen hlt
  obtain ⟨hwindow, -, -⟩ := hupload (hs.uploadActive hp)
  unfold afterHeader
  dsimp only
  split
  case isTrue hmore =>
    have next := controlOk_nextPhase (q := .header) hs hp rfl (fun _ => ⟨hstep, hmore⟩) (by rintro ⟨⟩) (by simp)
    exact next.of_control (by simp [control, huph])
  case isFalse hdone =>
    have hend : s.params.headerLen ≤ s.cursor + 4#32 := BitVec.not_lt.mp hdone
    exact controlOk_payloadOrTrailer hs hp hstep hend (BitVec.le_trans hle (BitVec.le_trans hmin hwindow))

theorem aligned4_of_and_seven {w : Word} (h : w &&& 7#32 = 0#32) : aligned4 w = true := by
  rw [and_seven_eq_zero_iff] at h
  rw [aligned4_iff]
  omega

/-- Step 5 after one word: the cursor stays inside the window or reaches its end (R259). -/
theorem controlOk_afterPayload {s : State} (hs : ControlOk s) (hq : s.seq = .payload) : ControlOk (afterPayload s) := by
  have hp : phaseOf s.seq = some .payload := by rw [hq]; rfl
  obtain ⟨huph, -⟩ := hs.transfer hp
  obtain ⟨-, -, -, hpayload, -⟩ := hs.cursor
  obtain ⟨haligned, hlow, hlt⟩ := hpayload huph
  obtain ⟨hstep, hnowrap, hle⟩ := aligned4_step haligned (aligned4_of_and_seven hs.window_aligned) hlt
  exact controlOk_payloadOrTrailer hs hp hstep (BitVec.le_trans hlow hnowrap) hle

/-- From the trailer on the cursor stands at WINDOW. -/
theorem ControlOk.cursor_eq_window {s : State} (hs : ControlOk s) (h : s.uph = .trailer ∨ s.uph = .ack) :
    s.cursor = s.window := by
  obtain ⟨-, -, -, -, hend⟩ := hs.cursor
  exact hend (h.imp_right .inl)

/-- Step 6 leads to step 7 (R260). -/
theorem controlOk_afterTrailer {s : State} (hs : ControlOk s) (hq : s.seq = .trailer) : ControlOk (afterTrailer s) := by
  have hp : phaseOf s.seq = some .trailer := by rw [hq]; rfl
  have hc : s.cursor = s.window := hs.cursor_eq_window (.inl (hs.transfer hp).1)
  exact controlOk_nextPhase (c := s.cursor) hs hp rfl (by rintro ⟨⟩) (by rintro ⟨⟩) fun _ => hc

/-- Step 7 ends the upload in Idle (R261, R293). -/
theorem controlOk_afterAck {s : State} (hs : ControlOk s) (hq : s.seq = .ack) : ControlOk (afterAck s) := by
  have hp : phaseOf s.seq = some .ack := by rw [hq]; rfl
  obtain ⟨huph, -, hhsst, hhsp, -⟩ := hs.transfer hp
  have hc : s.cursor = s.window := hs.cursor_eq_window (.inr huph)
  have hcursor : CursorOk { s with uph := .done, cursor := s.cursor } :=
    cursorOk_advance hs.cursor (hs.uploadActive hp) (by rintro ⟨⟩) (by rintro ⟨⟩) fun _ => hc
  exact controlOk_endFrame hs.nothing_in_flight (Iff.mpr (sessionOk_of_idle rfl) ⟨rfl, hhsst⟩) hhsp hcursor

/-- The Idle read leads to the write if SEND is set (R294, R297). -/
theorem controlOk_afterIdleRead {s : State} (hs : ControlOk s) (hq : s.seq = .idleRead) :
    ControlOk (afterIdleRead s) := by
  obtain ⟨hu, hsession, hhsp, hlstat⟩ := (sequencerOk_iff_of_idle (.inl hq)).mp hs.sequencer
  unfold afterIdleRead
  dsimp only
  split
  · exact
      { frame := frameOk_goOn hs.frame (hq ▸ by decide) (by decide)
        sequencer := Iff.mpr (sequencerOk_iff_of_idle (.inr rfl)) ⟨hu, hsession, hhsp, hlstat⟩
        cursor := hs.cursor }
  · exact controlOk_endFrame hs.nothing_in_flight hsession hhsp hs.cursor

theorem controlOk_afterIdleWrite {s : State} (hs : ControlOk s) (hq : s.seq = .idleWrite) : ControlOk (endFrame s) := by
  obtain ⟨-, hsession, hhsp, -⟩ := (sequencerOk_iff_of_idle (.inr hq)).mp hs.sequencer
  exact controlOk_endFrame hs.nothing_in_flight hsession hhsp hs.cursor

theorem controlOk_resume {s : State} {q : SeqStep} (hparams : ParamsOk s.params) (hs : ControlOk s) (hq : s.seq = q) :
    ControlOk (resume q s) := by
  have hp : phaseOf s.seq = phaseOf q := by rw [hq]
  cases q with
  | none => exact hs
  | probe => exact hs
  | hsReset => exact controlOk_afterReset hs hq
  | hsStatus => exact controlOk_afterStatus hs hq
  | remoteKey => exact controlOk_unlessAborted hs hp (controlOk_afterRemoteKey hs hq)
  | localKey => exact controlOk_unlessAborted hs hp (controlOk_afterLocalKey hparams hs hq)
  | header => exact controlOk_unlessAborted hs hp (controlOk_afterHeader hparams hs hq)
  | payload => exact controlOk_unlessAborted hs hp (controlOk_afterPayload hs hq)
  | trailer => exact controlOk_unlessAborted hs hp (controlOk_afterTrailer hs hq)
  | ack => exact controlOk_unlessAborted hs hp (controlOk_afterAck hs hq)
  | idleRead => exact controlOk_afterIdleRead hs hq
  | idleWrite => exact controlOk_afterIdleWrite hs hq

/-- An exchange of a frame action, with what precedes and what follows it. -/
theorem controlOk_exchangeStep (tx : List Byte) (m : Nat) {s : State} (hparams : ParamsOk s.params) (hs : ControlOk s) :
    ControlOk (resume s.seq (exchanged tx m (prepare s).1)) := by
  have hprep : control (prepare s).1 = control s := (prepare_keysOnly s).control
  have prepared : ControlOk (prepare s).1 := hs.of_control hprep
  have hcontrol : control (exchanged tx m (prepare s).1) = control s :=
    (control_exchanged tx m prepared.nothing_in_flight).trans hprep
  have hparams' : (exchanged tx m (prepare s).1).params = s.params := congrArg Prod.fst hcontrol
  exact controlOk_resume (hparams' ▸ hparams) (hs.of_control hcontrol) (seq_of_control hcontrol)

/-! ## The inputs -/

/-- An operation that is not blocked finds no frame action in progress (R97). -/
theorem seq_none_of_free {s : State} (hs : ControlOk s) (hfree : opBlocked s = false) : s.seq = .none := by
  obtain ⟨hatfb, hbusy, -⟩ := hs.frame
  have hidle : s.busy = false := by
    simp only [opBlocked, Bool.or_eq_false_iff] at hfree
    exact hfree.1.1
  rw [hidle] at hbusy
  exact hatfb.mp (by simpa using hbusy)

theorem OpEffect.controlOk {s t : State} (h : OpEffect s t) (hs : ControlOk s) : ControlOk t := by
  cases h with
  | refused e => exact hs.of_control rfl
  | nop => exact hs.of_control rfl
  | datapath => exact hs.of_control rfl
  | poll hfree p => exact (controlOk_linkUpdate p hs (.inl (seq_none_of_free hs hfree))).of_control rfl
  | drop hfree => exact (controlOk_linkDrop hs (seq_none_of_free hs hfree)).of_control rfl

/-- A tick starts a frame action where none is in progress, and is lost elsewhere (R291, R295). -/
theorem controlOk_frameTick (l : Triggers) {s : State} (hs : ControlOk s) : ControlOk (frameTick l s) := by
  obtain ⟨hatfb, -, hxpend⟩ := hs.frame
  unfold frameTick
  split
  case isTrue hfree =>
    exact
      { frame := ⟨iff_of_false (by rintro ⟨⟩) (by rintro ⟨⟩), rfl, hxpend⟩
        sequencer := Iff.mpr (sequencerOk_iff_of_resting (.inr rfl)) (hs.resting (.inl (hatfb.mp hfree)))
        cursor := hs.cursor }
  case isFalse => exact hs

theorem controlOk_setImageLen (n : Word) {s : State} (hs : ControlOk s) : ControlOk (setImageLen n s) :=
  hs.of_control (by rw [setImageLen_eq, markImageChange_eq]; rfl)

theorem controlOk_setImageByte (a : Word) (b : Byte) {s : State} (hs : ControlOk s) : ControlOk (setImageByte a b s) :=
  hs.of_control (by rw [setImageByte_eq, markImageChange_eq]; rfl)

/-- The session after reset (R381). -/
theorem controlOk_resetAll (s : State) : ControlOk (resetAll s) where
  frame := ⟨iff_of_true rfl rfl, rfl, rfl⟩
  sequencer := Iff.mpr (sequencerOk_iff_of_resting (.inl rfl)) ⟨rfl, rfl⟩
  cursor := cursorOk_of_inactive BitVec.zero_and rfl (by rintro ⟨⟩)

/-! ## Every step -/

theorem step_controlOk {s t : State} (hparams : ParamsOk s.params) (hs : ControlOk s) (h : step s = .next t) :
    ControlOk t := by
  have taken : ControlOk (takeInput s) := hs.of_control rfl
  rcases step_next_cases h with ⟨u, hu, hown⟩ | ⟨o, _, -, hexec⟩ | ⟨l, _, -, rfl⟩ | ⟨_, -, rfl⟩ | ⟨n, _, -, rfl⟩
    | ⟨a, b, _, -, rfl⟩
  · obtain ⟨hou, hpu⟩ : ControlOk u ∧ ParamsOk u.params := by
      rcases hu with ⟨-, rfl⟩ | ⟨-, rfl⟩
      · exact ⟨hs, hparams⟩
      · exact ⟨taken, hparams⟩
    rcases hown with ⟨-, rfl⟩ | ⟨hq, rfl⟩ | ⟨-, -, rfl⟩
    · exact hou
    · exact controlOk_probeStep hou hq
    · exact controlOk_exchangeStep _ _ hpu hou
  · exact (exec_op_effect (decodeTriple_port o) hexec).controlOk taken
  · exact controlOk_frameTick l taken
  · exact controlOk_resetAll _
  · exact controlOk_setImageLen n taken
  · exact controlOk_setImageByte a b taken

/-- The invariant of the whole machine, as the registers outside the session and the session. -/
theorem machineInv_iff (s : State) :
    MachineInv s ↔ ParamsOk s.params ∧ LinkOk s ∧ ErrOk s ∧ RxOk s ∧ RequestsOk s ∧ ImageOk s ∧ ControlOk s := by
  constructor
  · rintro ⟨hparams, hlink, hframe, herr, hrx, hrequests, himage, hsequencer, hcursor⟩
    exact ⟨hparams, hlink, herr, hrx, hrequests, himage, hframe, hsequencer, hcursor⟩
  · rintro ⟨hparams, hlink, herr, hrx, hrequests, himage, hframe, hsequencer, hcursor⟩
    exact ⟨hparams, hlink, hframe, herr, hrx, hrequests, himage, hsequencer, hcursor⟩

/-- A RESET keeps the parameters, the requests issued and the image, and sets the rest (R381). -/
theorem machineInv_resetAll {s : State} (hparams : ParamsOk s.params) (hrequests : RequestsOk s) (himage : ImageOk s) :
    MachineInv (resetAll s) :=
  (machineInv_iff _).mpr ⟨hparams, linkOk_resetAll s, ⟨iff_of_true rfl rfl, by rintro _ ⟨⟩⟩, .inl rfl, hrequests,
    himage, controlOk_resetAll s⟩

/-- Settles O44: outside a RESET the registers are kept by `step_keeps` and the session by `step_controlOk`. -/
theorem everyStepKeepsTheInvariant : Obligations.EveryStepKeepsTheInvariant := by
  intro s t hs h
  obtain ⟨hparams, hlink, herr, hrx, hrequests, himage, hcontrol⟩ := (machineInv_iff s).mp hs
  by_cases hreset : ∃ rest, s.ports.inputs = .reset :: rest
  · obtain ⟨rest, hin⟩ := hreset
    rw [step_reset_next hin h]
    exact machineInv_resetAll hparams hrequests himage
  · have k := step_keeps h (not_exists.mp hreset)
    have hseed : s.params.debounceSeed ≠ 0#8 := hparams.1
    exact (machineInv_iff t).mpr ⟨k.params ▸ hparams, k.link hseed hlink, k.err herr, k.rx hrx,
      k.requests hrequests, k.image himage, step_controlOk hparams hcontrol h⟩

end Sys2Proof.Machine
end

section
/-! PROOFS. The image read by bytes and by words (R61 to R63). -/

namespace Sys2Proof.Machine

/-- R61's byte: zero from IMG_LEN on, the offset taken as a number and not as a word. -/
theorem imageByte_eq (s : State) (a : Nat) :
    imageByte s a = if a < s.ports.imgLen.toNat then Memory.read s.ports.image a else 0x00 := rfl

/-- The bytes of an image word are the image bytes from its offset on, the least significant first. -/
theorem byteOf_imageWord (s : State) (o : Word) {k : Nat} (hk : k < 4) :
    byteOf k (imageWord s o) = imageByte s (o.toNat + k) := by
  unfold imageWord
  match k, hk with
  | 0, _ => exact byteOf_zero_le32 ..
  | 1, _ => exact byteOf_one_le32 ..
  | 2, _ => exact byteOf_two_le32 ..
  | 3, _ => exact byteOf_three_le32 ..

/-- Settles O23: a byte of the word is an image byte by `byteOf_imageWord`. -/
theorem imageReadsPadWithZero : Obligations.ImageReadsPadWithZero := by
  intro s o k hk
  have hbyte := imageByte_eq s (o.toNat + k)
  exact ⟨(byteOf_imageWord s o hk).trans hbyte, hbyte⟩

end Sys2Proof.Machine
end

section
/-! PROOFS. The two encoding spaces and the checks of the operation port (30_encoding.md): which frames are wire
commands (R91, R99), which operation words are operations (R94, R96, R98), the order of an operation's checks (R97), and
what an operation writes (R96). -/

namespace Sys2Proof

/-! ## Wire frames (R91, R99) -/

/-- Everything that a wire frame can decode to, with the bytes that do. -/
theorem decode_wire_ok {bs : List Byte} {i : Instr} (h : decode .wire bs = .ok i) :
    bs = [0xFF#8] ∧ i = .wireReset ∨ bs = [0x00#8] ∧ i = .wireStatus ∨ bs = [0x14#8] ∧ i = .wireRead
      ∨ ∃ v, bs = writeFrame v ∧ i = .wireWrite v := by
  match bs, h with
  | c :: vs, h =>
    simp only [decode, decodeWire] at h
    split at h
    · split at h <;> simp_all
    split at h
    · split at h <;> simp_all
    split at h
    · split at h <;> simp_all
    split at h
    · next hc =>
      split at h
      · next b0 b1 b2 b3 =>
        obtain rfl := Except.ok.inj h
        exact .inr (.inr (.inr ⟨_, by rw [writeFrame_le32, hc], rfl⟩))
      · cases h
    · cases h

/-! ## Operation words (R94, R96, R98) -/

/-- The words that R97's first check turns down: OPW[7:4] is not zero, or OPC is 0xF. -/
def ReservedWord (w : Byte) : Prop := w >>> 4 ≠ 0#8 ∨ w &&& 0x0F#8 = 0x0F#8

/-- The reserved words are those from 0x0F on. -/
theorem reservedWord_iff (w : Byte) : ReservedWord w ↔ 0x0F ≤ w.toNat := by
  have hlow : w.toNat &&& 0x0F = w.toNat % 16 := Nat.and_two_pow_sub_one_eq_mod w.toNat 4
  simp only [ReservedWord, ne_eq, BitVec.toNat_eq, BitVec.toNat_ushiftRight, BitVec.toNat_and, BitVec.reduceToNat,
    Nat.shiftRight_eq_div_pow, hlow]
  omega

/-- OPW[7:4] is zero in the words below 0x10. -/
theorem mbzOf_eq_zero_iff (w : Byte) : mbzOf w = 0#4 ↔ w.toNat < 0x10 := by
  simp only [mbzOf, BitVec.toNat_eq, BitVec.extractLsb'_toNat, Nat.shiftRight_eq_div_pow, BitVec.toNat_ofNat]
  omega

/-- A word below 0x10 decodes by its operation code (R96). -/
theorem decodeTriple_of_lt {w : Byte} (h : w.toNat < 0x10) (a b : Word) :
    decodeTriple ⟨w, a, b⟩ = opcodeInstr (opcOf w) a b := by
  rw [decodeTriple, if_pos ((mbzOf_eq_zero_iff w).mpr h)]

/-- R96's map without NOP: the instruction that an operation word is with the operands `a` and `b`. -/
inductive Operation (a b : Word) : Byte → Instr → Prop where
  | csumInit : Operation a b 0x01#8 .csumInit
  | csumFold : Operation a b 0x02#8 (.csumFold a)
  | csumFinal : Operation a b 0x03#8 (.csumFinal a)
  | kdf : Operation a b 0x04#8 (.kdf a)
  | rkey : Operation a b 0x05#8 (.rkey a)
  | kseed : Operation a b 0x06#8 .kseed
  | kadv : Operation a b 0x07#8 .kadv
  | mask : Operation a b 0x08#8 (.mask a b)
  | crypt : Operation a b 0x09#8 (.crypt a b)
  | imgrd : Operation a b 0x0A#8 (.imgrd a)
  | payw : Operation a b 0x0B#8 (.payw a)
  | sealCsum : Operation a b 0x0C#8 (.sealCsum a b)
  | lpoll : Operation a b 0x0D#8 (.lpoll a)
  | ldrop : Operation a b 0x0E#8 .ldrop

/-- A word that is neither reserved nor 0x00 decodes as R96 says. -/
theorem operation_decodeTriple {t : OpTriple} (hres : ¬ ReservedWord t.opw) (hnop : t.opw ≠ 0x00#8) :
    Operation t.opa t.opb t.opw (decodeTriple t) := by
  obtain ⟨w, a, b⟩ := t
  have hlt : w.toNat < 0x0F := by simpa [reservedWord_iff] using hres
  rw [decodeTriple_of_lt (by omega)]
  have hw : w = BitVec.ofNat 8 w.toNat := BitVec.eq_of_toNat_eq (by simp)
  generalize w.toNat = n at hlt hw
  subst hw
  interval_cases n
  · exact absurd rfl hnop
  exacts [.csumInit, .csumFold, .csumFinal, .kdf, .rkey, .kseed, .kadv, .mask, .crypt, .imgrd, .payw, .sealCsum, .lpoll,
    .ldrop]

end Sys2Proof

namespace Sys2Proof.Machine

/-! ## The checks of the operation port (R97) -/

/-- OPBLOCKED as the model computes it is the one that R97 writes out. -/
theorem opBlocked_iff_blocked (s : State) : opBlocked s = true ↔ Blocked s := by
  have hactive : uploadActive s = true
      ↔ s.uph ∈ [.handshake, .remoteKey, .localKey, .header, .payload, .trailer, .ack] := by
    unfold uploadActive
    cases s.uph <;> decide
  rw [opBlocked_eq_true_iff, hactive, Blocked]

/-- A rejection writes ERR's bit of the error, R341's code less one. -/
theorem reject_eq_opRefused (e : ErrCode) (s : State) : reject e s = opRefused e (e.code - 1) s := rfl

/-- Each row whose OPW[7:4] is not zero raises ReservedOp (R98). -/
theorem exec_reservedMbz (mbz opc : BitVec 4) (s : State) :
    exec (reservedMbz mbz opc) s = .next (reject .reservedOp s) := by
  unfold reservedMbz
  split <;> rfl

/-- R97's first check. -/
theorem exec_of_reservedWord {t : OpTriple} (h : ReservedWord t.opw) (s : State) :
    exec (decodeTriple t) s = .next (reject .reservedOp s) := by
  unfold decodeTriple
  split
  · next hmbz =>
    have hge := (reservedWord_iff _).mp h
    have hlt := (mbzOf_eq_zero_iff _).mp hmbz
    have hw : t.opw = 0x0F#8 := BitVec.eq_of_toNat_eq (show t.opw.toNat = 0x0F by omega)
    rw [hw]
    rfl
  · exact exec_reservedMbz ..

/-- R97's second check. -/
theorem exec_of_nopWord {t : OpTriple} (h : t.opw = 0x00#8) (s : State) :
    exec (decodeTriple t) s = .next (answer .accepted s) := by
  obtain ⟨w, a, b⟩ := t
  subst h
  rw [decodeTriple_of_lt (by decide)]
  rfl

/-! ## What an operation writes (R96) -/

/-- R96's column "writes" without OPR: the states that an accepted operation with word `w` can make of `s`. -/
inductive Writes (s : State) : Byte → State → Prop where
  | nothing {w : Byte} (hw : w ∈ [0x08#8, 0x0A#8]) : Writes s w s
  | csum {w : Byte} (hw : w ∈ [0x01#8, 0x02#8, 0x03#8]) (c : Word) : Writes s w { s with csum := c }
  | localKey (l : Word) : Writes s 0x04#8 { s with localKey := l }
  | remoteKey (r : Word) : Writes s 0x05#8 { s with remoteKey := r }
  | key {w : Byte} (hw : w ∈ [0x06#8, 0x07#8, 0x09#8]) (k : Word) : Writes s w { s with key := k }
  | csumAndKey {w : Byte} (hw : w ∈ [0x0B#8, 0x0C#8]) (c k : Word) : Writes s w { s with csum := c, key := k }
  | link {w : Byte} (hw : w ∈ [0x0D#8, 0x0E#8]) (l : LinkStatus) (d : Byte) :
    Writes s w { s with lstat := l, dcnt := d }

/-- What an operation does that is not blocked (R97, item 4): its own check fires, or it is accepted. -/
inductive OwnEffect (s : State) : Byte → State → Prop where
  | windowTooSmall : OwnEffect s 0x04#8 (reject .windowTooSmall s)
  | misalignedOffset {w : Byte} (hw : w = 0x0A#8 ∨ w = 0x0B#8) : OwnEffect s w (reject .misalignedOffset s)
  | accepted {w : Byte} {t : State} (v : Word) (h : Writes s w t) : OwnEffect s w (accept v t)

/-- R97's third and fourth check: every operation is refused while OPBLOCKED holds, and else has its own effect. -/
theorem exec_operation {a b : Word} {w : Byte} {i : Instr} (h : Operation a b w i) (s : State) :
    ∃ f : State → State, exec i s = unlessBlocked s f ∧ OwnEffect s w (f s) := by
  cases h with
  | csumInit => exact ⟨_, show execCsumInit s = _ from rfl, .accepted _ (.csum (by decide) _)⟩
  | csumFold => exact ⟨_, show execCsumFold a s = _ from rfl, .accepted _ (.csum (by decide) _)⟩
  | csumFinal => exact ⟨_, show execCsumFinal a s = _ from rfl, .accepted _ (.csum (by decide) _)⟩
  | kdf =>
    refine ⟨_, show execKdf a s = _ from rfl, ?_⟩
    split
    · exact .windowTooSmall
    · exact .accepted _ (.localKey _)
  | rkey => exact ⟨_, show execRkey a s = _ from rfl, .accepted _ (.remoteKey _)⟩
  | kseed => exact ⟨_, show execKseed s = _ from rfl, .accepted _ (.key (by decide) _)⟩
  | kadv => exact ⟨_, show execKadv s = _ from rfl, .accepted _ (.key (by decide) _)⟩
  | mask => exact ⟨_, show execMask a b s = _ from rfl, .accepted _ (.nothing (by decide))⟩
  | crypt => exact ⟨_, show execCrypt a b s = _ from rfl, .accepted _ (.key (by decide) _)⟩
  | imgrd =>
    refine ⟨_, show execImgrd a s = _ from rfl, ?_⟩
    split
    · exact .accepted _ (.nothing (by decide))
    · exact .misalignedOffset (.inl rfl)
  | payw =>
    refine ⟨_, show execPayw a s = _ from rfl, ?_⟩
    split
    · exact .accepted _ (.csumAndKey (by decide) _ _)
    · exact .misalignedOffset (.inr rfl)
  | sealCsum => exact ⟨_, show execSeal a b s = _ from rfl, .accepted _ (.csumAndKey (by decide) _ _)⟩
  | lpoll =>
    refine ⟨_, show execLpoll a s = _ from rfl, .accepted _ ?_⟩
    rw [linkUpdate_self]
    exact .link (by decide) _ _
  | ldrop => exact ⟨_, show execLdrop s = _ from rfl, .accepted _ (.link (by decide) _ _)⟩

/-- An operation with word `w` that turns `s` into `u` writes no register that R96 does not list for it. -/
def WritesOnlyListed (w : Byte) (s u : State) : Prop :=
  u = { s with csum := u.csum, localKey := u.localKey, remoteKey := u.remoteKey, key := u.key, opr := u.opr,
               lstat := u.lstat, dcnt := u.dcnt, errBits := u.errBits, lastErr := u.lastErr,
               ports := { s.ports with opAnswer := u.ports.opAnswer } }
    ∧ (u.csum ≠ s.csum → w ∈ [0x01#8, 0x02#8, 0x03#8, 0x0B#8, 0x0C#8])
    ∧ (u.localKey ≠ s.localKey → w = 0x04#8)
    ∧ (u.remoteKey ≠ s.remoteKey → w = 0x05#8)
    ∧ (u.key ≠ s.key → w ∈ [0x06#8, 0x07#8, 0x09#8, 0x0B#8, 0x0C#8])
    ∧ (u.lstat ≠ s.lstat ∨ u.dcnt ≠ s.dcnt → w = 0x0D#8 ∨ w = 0x0E#8)

/-- An operation that is not accepted writes ERR alone, under every word. -/
theorem writesOnlyListed_reject (w : Byte) (e : ErrCode) (s : State) : WritesOnlyListed w s (reject e s) :=
  ⟨rfl, by simp, by simp, by simp, by simp, by simp⟩

theorem writesOnlyListed_answer (w : Byte) (a : OpAnswer) (s : State) : WritesOnlyListed w s (answer a s) :=
  ⟨rfl, by simp, by simp, by simp, by simp, by simp⟩

theorem Writes.writesOnlyListed {s t : State} {w : Byte} (h : Writes s w t) (v : Word) :
    WritesOnlyListed w s (accept v t) := by
  cases h with
  | nothing => exact ⟨rfl, by simp, by simp, by simp, by simp, by simp⟩
  | csum hw => exact ⟨rfl, fun _ => List.mem_append_left [0x0B#8, 0x0C#8] hw, by simp, by simp, by simp, by simp⟩
  | localKey => exact ⟨rfl, by simp, by simp, by simp, by simp, by simp⟩
  | remoteKey => exact ⟨rfl, by simp, by simp, by simp, by simp, by simp⟩
  | key hw => exact ⟨rfl, by simp, by simp, by simp, fun _ => List.mem_append_left [0x0B#8, 0x0C#8] hw, by simp⟩
  | csumAndKey hw =>
    exact ⟨rfl, fun _ => List.mem_append_right [0x01#8, 0x02#8, 0x03#8] hw, by simp, by simp,
      fun _ => List.mem_append_right [0x06#8, 0x07#8, 0x09#8] hw, by simp⟩
  | link hw => exact ⟨rfl, by simp, by simp, by simp, by simp, fun _ => by simpa using hw⟩

/-- An accepted operation raises no error. -/
theorem Writes.err {s t : State} {w : Byte} (h : Writes s w t) : t.errBits = s.errBits ∧ t.lastErr = s.lastErr := by
  cases h <;> exact ⟨rfl, rfl⟩

/-- The answers of R97's fourth check: no error at all, or the operation's own one. -/
theorem OwnEffect.accepted_or_refused {s u : State} {w : Byte} (h : OwnEffect s w u) :
    (u.ports.opAnswer = .accepted ∧ u.errBits = s.errBits ∧ u.lastErr = s.lastErr)
      ∨ (w = 0x04#8 ∧ u = opRefused .windowTooSmall 4 s)
      ∨ ((w = 0x0A#8 ∨ w = 0x0B#8) ∧ u = opRefused .misalignedOffset 8 s) := by
  cases h with
  | windowTooSmall => exact .inr (.inl ⟨rfl, reject_eq_opRefused ..⟩)
  | misalignedOffset hw => exact .inr (.inr ⟨hw, reject_eq_opRefused ..⟩)
  | accepted v h => exact .inl ⟨rfl, h.err⟩

theorem OwnEffect.writesOnlyListed {s u : State} {w : Byte} (h : OwnEffect s w u) : WritesOnlyListed w s u := by
  cases h with
  | windowTooSmall => exact writesOnlyListed_reject ..
  | misalignedOffset => exact writesOnlyListed_reject ..
  | accepted v h => exact h.writesOnlyListed v

/-! ## The assembler (R95, R101, R102) -/

/-- An operation's line assembles to a triple of that operation: the operands that are written as 0 are not used. -/
theorem decodeTriple_assembleTriple {a b : Word} {w : Byte} {i : Instr} (h : Operation a b w i) :
    decodeTriple (assembleTriple w a b) = i := by
  cases h <;> exact decodeTriple_of_lt (by decide) _ _

/-- A line whose mnemonic R96 does not name is a pseudo-instruction or nothing (R101, R102). -/
theorem assembleOp_of_pseudo {name : List Char} (h : opwOf name opMnemonics = none) (a b : Word) :
    assembleOp name a b = expandPseudo name a b := by
  simp only [assembleOp, h]

/-! ## The statements -/

/-- Settles O3: `decode_wire_ok` in one direction, the decoder on the four frames in the other. -/
theorem decodedFramesAreTheFourCommands : Obligations.DecodedFramesAreTheFourCommands := by
  intro bs i
  constructor
  · intro h
    rcases decode_wire_ok h with ⟨rfl, rfl⟩ | ⟨rfl, rfl⟩ | ⟨rfl, rfl⟩ | ⟨v, rfl, rfl⟩
    · exact ⟨rfl, .inl rfl⟩
    · exact ⟨rfl, .inr (.inl rfl)⟩
    · exact ⟨rfl, .inr (.inr (.inl rfl))⟩
    · exact ⟨rfl, .inr (.inr (.inr ⟨v, rfl⟩))⟩
  · rintro ⟨rfl, rfl | rfl | rfl | ⟨v, rfl⟩⟩
    · exact decode_frame_reset
    · exact decode_frame_status
    · exact decode_frame_read
    · exact decode_writeFrame v

/-- Settles O8: the three lemmas on `exec`, one for each check of R97, in its order. -/
theorem operationCheckOrder : Obligations.OperationCheckOrder := by
  intro t s
  split
  · next hres => rw [exec_of_reservedWord hres, reject_eq_opRefused]; rfl
  split
  · next hnop => exact exec_of_nopWord hnop s
  next hres hnop =>
  obtain ⟨f, hexec, hf⟩ := exec_operation (operation_decodeTriple hres hnop) s
  rw [hexec]
  refine ⟨fun hb => unlessBlocked_of_blocked ((opBlocked_iff_blocked s).mpr hb) f, fun hfree => ?_⟩
  rw [← opBlocked_iff_blocked, Bool.not_eq_true] at hfree
  exact ⟨f s, unlessBlocked_of_free hfree f, hf.accepted_or_refused⟩

/-- Settles O9: each of R97's checks answers with a state that keeps R96's column "writes". -/
theorem operationsWriteOnlyTheirRegisters : Obligations.OperationsWriteOnlyTheirRegisters := by
  intro t s
  by_cases hres : ReservedWord t.opw
  · exact ⟨_, exec_of_reservedWord hres s, writesOnlyListed_reject ..⟩
  by_cases hnop : t.opw = 0x00#8
  · exact ⟨_, exec_of_nopWord hnop s, writesOnlyListed_answer ..⟩
  obtain ⟨f, hexec, hf⟩ := exec_operation (operation_decodeTriple hres hnop) s
  cases hb : opBlocked s with
  | true => exact ⟨_, hexec.trans (unlessBlocked_of_blocked hb f), writesOnlyListed_reject ..⟩
  | false => exact ⟨_, hexec.trans (unlessBlocked_of_free hb f), hf.writesOnlyListed⟩

/-- Settles O4, by evaluating the decoder. -/
theorem writtenOutWordsDecode : Obligations.WrittenOutWordsDecode :=
  ⟨rfl, rfl, rfl, rfl, rfl, rfl, rfl, rfl⟩

/-- Settles O6: the fifteen rows with OPW[7:4] not zero are `exec_reservedMbz` at each value of it. -/
theorem everyReservedRowRaisesReservedOp : Obligations.EveryReservedRowRaisesReservedOp := by
  intro opc s
  simp only [List.forall_mem_cons]
  have h (mbz : BitVec 4) := exec_reservedMbz mbz opc s
  exact ⟨rfl, h 0x1, h 0x2, h 0x3, h 0x4, h 0x5, h 0x6, h 0x7, h 0x8, h 0x9, h 0xA, h 0xB, h 0xC, h 0xD, h 0xE, h 0xF,
    by simp⟩

/-- Settles O7: the map of R96 at operation code 0, and NOP's own meaning. -/
theorem nopIsAlwaysAccepted : Obligations.NopIsAlwaysAccepted :=
  ⟨decodeTriple_of_lt (by decide), fun _ => rfl⟩

/-- Settles O5: no pseudo-instruction is a mnemonic of R96, and each triple of its expansion decodes by its row. -/
theorem pseudoInstructionsExpand : Obligations.PseudoInstructionsExpand := by
  intro a b
  refine ⟨?_, ?_, ?_, ?_⟩ <;> rw [assembleOp_of_pseudo (by decide)]
  · simp [expandPseudo, decodeTriple_assembleTriple .kdf, decodeTriple_assembleTriple .rkey,
      decodeTriple_assembleTriple .kseed, decodeTriple_assembleTriple .csumInit]
  · simp [expandPseudo, decodeTriple_assembleTriple .crypt]
  · simp [expandPseudo, decodeTriple_assembleTriple .mask]
  · simp [expandPseudo, decodeTriple_assembleTriple .ldrop]

end Sys2Proof.Machine
end

section
/-! PROOFS. An operation that has no check of its own (30_encoding.md R95 to R97): it is accepted with its result unless
OPBLOCKED holds, and is refused with OpBusy while it does. -/

namespace Sys2Proof.Machine

/-- Every operation of R96 but NOP is refused while OPBLOCKED holds. -/
theorem refusedWhileBlocked_of_operation {a b : Word} {w : Byte} {i : Instr} (h : Operation a b w i) :
    RefusedWhileBlocked i := by
  intro s hb
  obtain ⟨f, hexec, -⟩ := exec_operation h s
  rw [hexec, unlessBlocked_of_blocked ((opBlocked_iff_blocked s).mpr hb), reject_eq_opRefused]
  rfl

/-- An operation whose whole effect is to be accepted, unless it is blocked. -/
theorem acceptedWith_of_exec {i : Instr} {v : State → Word} {f : State → State}
    (h : ∀ s, exec i s = unlessBlocked s fun s => accept (v s) (f s)) : AcceptedWith i v f := by
  intro s hfree
  rw [← opBlocked_iff_blocked, Bool.not_eq_true] at hfree
  exact (h s).trans (unlessBlocked_of_free hfree _)

/-- The only state that an accepted operation can end in. -/
theorem AcceptedWith.eq_opDone {i : Instr} {v : State → Word} {f : State → State} (h : AcceptedWith i v f)
    {s t : State} (hfree : ¬ Blocked s) (hexec : exec i s = .next t) : t = opDone (v s) (f s) :=
  Host.Outcome.next.inj (hexec.symm.trans (h s hfree))

/-- OPBLOCKED depends on neither OPR, nor the answer line, nor CSUM. -/
theorem blocked_opDone_csum (v c : Word) (s : State) : Blocked (opDone v { s with csum := c }) ↔ Blocked s := .rfl

end Sys2Proof.Machine
end

section
/-! PROOFS. The fold of the checksum (R131 to R133): one iteration, the fold as a loop over the word's bits, the bound of
a folded checksum, and what a change of the old checksum makes of the new one. -/

namespace Sys2Proof.Machine

/-- One iteration of the fold with the word's bit `b` (R131). -/
def foldStep (poly : Word) (b : Bool) (c : Word) : Word :=
  if c.getLsbD 0 != b then (c >>> 1) ^^^ poly else c >>> 1

/-! ## The fold by its iterations -/

/-- A word's bit 0 selected with the mask 1 (R132). -/
theorem and_one_eq_one_iff (x : Word) : x &&& 1#32 = 1#32 ↔ x.getLsbD 0 = true := by
  simp [BitVec.toNat_eq, BitVec.getLsbD, Nat.testBit_zero]

/-- R132's comparison of the two bits 0 is R131's comparison of the checksum with the word's next bit. -/
theorem foldBits_succ (poly c w : Word) (n : Nat) :
    foldBits poly (n + 1) c w = foldBits poly n (foldStep poly (w.getLsbD 0) c) (w >>> 1) := by
  simp only [foldBits, foldStep, and_one_eq_one_iff, BitVec.getLsbD_xor]

/-- The fold is a loop over the word's bits, the least significant first. -/
theorem foldBits_eq_foldl (poly : Word) (n : Nat) (c w : Word) :
    foldBits poly n c w = (List.range n).foldl (fun c i => foldStep poly (w.getLsbD i) c) c := by
  induction n generalizing c w with
  | zero => rfl
  | succ n ih =>
    rw [foldBits_succ, ih, List.range_succ_eq_map, List.foldl_cons, List.foldl_map]
    simp only [BitVec.getLsbD_ushiftRight, Nat.add_comm 1, Nat.succ_eq_add_one]

/-! ## The bound (R133) -/

/-- An iteration moves the checksum down by one bit, and the polynomial adds none above it. -/
theorem foldStep_toNat_lt {poly c : Word} {k : Nat} (hpoly : poly.toNat < 2 ^ k) (hc : c.toNat < 2 ^ (k + 1))
    (b : Bool) : (foldStep poly b c).toNat < 2 ^ k := by
  have hshift : (c >>> 1).toNat < 2 ^ k := by
    rw [BitVec.toNat_ushiftRight, Nat.shiftRight_eq_div_pow]
    omega
  unfold foldStep
  split
  · rw [BitVec.toNat_xor]
    exact Nat.xor_lt_two_pow hshift hpoly
  · exact hshift

/-- `n` iterations remove the `n` bits above the polynomial. -/
theorem foldBits_toNat_lt {poly : Word} {k : Nat} (hpoly : poly.toNat < 2 ^ k) (n : Nat) {c : Word}
    (hc : c.toNat < 2 ^ (k + n)) (w : Word) : (foldBits poly n c w).toNat < 2 ^ k := by
  induction n generalizing c w with
  | zero => exact hc
  | succ n ih =>
    have hpoly' : poly.toNat < 2 ^ (k + n) := hpoly.trans_le (Nat.pow_le_pow_right (by decide) (by omega))
    rw [foldBits_succ]
    exact ih (foldStep_toNat_lt hpoly' hc _) _

/-- A fold with a polynomial of 16 bits answers 16 bits. -/
theorem fold_lt {p : Config.Params} (hpoly : p.csumPoly.toNat < 2 ^ 16) (c w : Word) : fold p c w < 0x10000#32 :=
  BitVec.lt_def.mpr (foldBits_toNat_lt hpoly 32 (c.isLt.trans (by decide)) w)

/-! ## The influence of the old checksum (R133) -/

/-- What an iteration adds to the shifted checksum when its two bits have the difference `x`. -/
def feedback (poly : Word) (x : Bool) : Word := if x then poly else 0#32

theorem feedback_xor (poly : Word) (x y : Bool) : feedback poly (x ^^ y) = feedback poly x ^^^ feedback poly y := by
  cases x <;> cases y <;> simp [feedback]

theorem foldStep_eq_feedback (poly : Word) (b : Bool) (c : Word) :
    foldStep poly b c = (c >>> 1) ^^^ feedback poly (c.getLsbD 0 ^^ b) := by
  show (if c.getLsbD 0 ^^ b then (c >>> 1) ^^^ poly else c >>> 1) = _
  cases c.getLsbD 0 ^^ b with
  | true => rfl
  | false => exact BitVec.xor_zero.symm

/-- An iteration is linear: a difference `d` of two checksums goes on as a checksum does with the word's bit 0. -/
theorem foldStep_xor (poly : Word) (b : Bool) (c d : Word) :
    foldStep poly b (c ^^^ d) = foldStep poly b c ^^^ foldStep poly false d := by
  have hbits : ((c ^^^ d).getLsbD 0 ^^ b) = ((c.getLsbD 0 ^^ b) ^^ (d.getLsbD 0 ^^ false)) := by
    rw [BitVec.getLsbD_xor, Bool.xor_false, Bool.xor_right_comm]
  simp only [foldStep_eq_feedback, hbits, feedback_xor, BitVec.ushiftRight_xor_distrib]
  ac_rfl

/-- The fold is linear: a difference `d` of two checksums is folded with the word 0. -/
theorem foldBits_xor (poly : Word) (n : Nat) (c d w : Word) :
    foldBits poly n (c ^^^ d) w = foldBits poly n c w ^^^ foldBits poly n d 0#32 := by
  induction n generalizing c d w with
  | zero => rfl
  | succ n ih =>
    rw [foldBits_succ, foldBits_succ, foldBits_succ, foldStep_xor, ih]
    rfl

/-- A difference of 16 bits does not vanish in an iteration: shifted out of bit 0, it returns as bit 15 of the
polynomial. -/
theorem foldStep_ne_zero {poly d : Word} (htop : poly.getLsbD 15 = true) (hd : d.toNat < 2 ^ 16) (hne : d ≠ 0#32) :
    foldStep poly false d ≠ 0#32 := by
  have h16 : d.getLsbD 16 = false := Nat.testBit_lt_two_pow hd
  unfold foldStep
  split
  · intro h
    have hbit := congrArg (BitVec.getLsbD · 15) h
    rw [BitVec.getLsbD_xor, BitVec.getLsbD_ushiftRight, h16, htop] at hbit
    exact absurd hbit (by decide)
  · next hlow =>
    have heven : d.toNat % 2 = 0 := by simpa [BitVec.getLsbD, Nat.testBit_zero] using hlow
    simp only [ne_eq, BitVec.toNat_eq, BitVec.toNat_ushiftRight, Nat.shiftRight_eq_div_pow, BitVec.toNat_ofNat] at hne ⊢
    omega

theorem foldBits_ne_zero {poly d : Word} (hpoly : poly.toNat < 2 ^ 16) (htop : poly.getLsbD 15 = true)
    (hd : d.toNat < 2 ^ 16) (hne : d ≠ 0#32) (n : Nat) : foldBits poly n d 0#32 ≠ 0#32 := by
  induction n generalizing d with
  | zero => exact hne
  | succ n ih =>
    rw [foldBits_succ]
    exact ih (foldStep_toNat_lt hpoly (hd.trans (by decide)) _) (foldStep_ne_zero htop hd hne)

theorem twoPow_ne_zero {i : Nat} (hi : i < 32) : BitVec.twoPow 32 i ≠ 0#32 := by
  intro h
  have hbit := congrArg (BitVec.getLsbD · i) h
  simp [hi] at hbit

/-- A difference in one bit above bit 0 moves down by one bit. -/
theorem foldStep_twoPow_succ (poly : Word) {i : Nat} (hi : i + 1 < 32) :
    foldStep poly false (BitVec.twoPow 32 (i + 1)) = BitVec.twoPow 32 i := by
  have hlow : (BitVec.twoPow 32 (i + 1)).getLsbD 0 = false := by simp
  rw [foldStep, hlow, if_neg (by decide)]
  apply BitVec.eq_of_getLsbD_eq
  intro j hj
  rw [BitVec.getLsbD_ushiftRight, BitVec.getLsbD_twoPow, BitVec.getLsbD_twoPow]
  simp [hi, show i < 32 by omega, Nat.add_comm 1]

/-- A difference in one bit is shifted to bit 0 and never vanishes after it. -/
theorem foldBits_twoPow_ne_zero {poly : Word} (hpoly : poly.toNat < 2 ^ 16) (htop : poly.getLsbD 15 = true) {i : Nat}
    (hi : i < 32) (n : Nat) : foldBits poly n (BitVec.twoPow 32 i) 0#32 ≠ 0#32 := by
  induction i generalizing n with
  | zero => exact foldBits_ne_zero hpoly htop (by decide) (by decide) n
  | succ i ih =>
    cases n with
    | zero => exact twoPow_ne_zero hi
    | succ n =>
      rw [foldBits_succ]
      exact (foldStep_twoPow_succ poly hi).symm ▸ ih (by omega) n

/-- Settles O10: `foldStep` is an iteration of R131's loop. -/
theorem foldTakesTheWordBitsInOrder : Obligations.FoldTakesTheWordBitsInOrder :=
  ⟨rfl, fun p c w => foldBits_eq_foldl p.csumPoly 32 c w⟩

/-- Settles O11: the fold of a difference in one bit is not zero, and the fold is linear. -/
theorem foldedChecksumFitsSixteenBits : Obligations.FoldedChecksumFitsSixteenBits := by
  refine ⟨rfl, fun p hp => ?_⟩
  have hpoly : p.csumPoly.toNat < 2 ^ 16 := by rw [hp]; decide
  have htop : p.csumPoly.getLsbD 15 = true := by rw [hp]; decide
  refine ⟨fold_lt hpoly, fun c w i hi heq => ?_⟩
  have hsplit : fold p c w ^^^ foldBits p.csumPoly 32 (BitVec.twoPow 32 i) 0#32 = fold p c w ^^^ 0#32 :=
    (foldBits_xor ..).symm.trans (heq.trans BitVec.xor_zero.symm)
  exact foldBits_twoPow_ne_zero hpoly htop hi 32 ((BitVec.xor_right_inj _).mp hsplit)

end Sys2Proof.Machine
end

section
/-! PROOFS. The operations on the checksum (40_checksum.md R136 to R140). -/

namespace Sys2Proof.Machine

/-! ## Their effects -/

theorem acceptedWith_csumInit :
    AcceptedWith .csumInit (fun s => s.params.csumSeed) (fun s => { s with csum := s.params.csumSeed }) :=
  acceptedWith_of_exec fun s => show execCsumInit s = _ from rfl

theorem acceptedWith_csumFold (w : Word) :
    AcceptedWith (.csumFold w) (fun s => fold s.params s.csum w) (fun s => { s with csum := fold s.params s.csum w }) :=
  acceptedWith_of_exec fun s => show execCsumFold w s = _ from rfl

theorem acceptedWith_csumFinal (len : Word) :
    AcceptedWith (.csumFinal len) (fun s => s.csum ||| (len <<< 16))
      (fun s => { s with csum := s.csum ||| (len <<< 16) }) :=
  acceptedWith_of_exec fun s => show execCsumFinal len s = _ from rfl

/-- The high half of a length is shifted out of the word (R136). -/
theorem and_low_half_shiftLeft (len : Word) : (len &&& 0xFFFF#32) <<< 16 = len <<< 16 := by
  apply BitVec.eq_of_toNat_eq
  have hlow : len.toNat &&& 0xFFFF = len.toNat % 2 ^ 16 := Nat.and_two_pow_sub_one_eq_mod len.toNat 16
  simp only [BitVec.toNat_shiftLeft, BitVec.toNat_and, BitVec.reduceToNat, hlow, Nat.shiftLeft_eq]
  omega

theorem finalize_and_low_half (c len : Word) : finalize c (len &&& 0xFFFF#32) = finalize c len := by
  rw [finalize, finalize, and_low_half_shiftLeft]

@[simp] theorem finalize_zero (c : Word) : finalize c 0#32 = c := by simp [finalize]

/-! ## The statements -/

/-- Settles O13: the corner values by evaluating the fold. -/
theorem csumFoldFoldsTheWord : Obligations.CsumFoldFoldsTheWord :=
  ⟨decodeTriple_of_lt (by decide), acceptedWith_csumFold, fun w => refusedWhileBlocked_of_operation (.csumFold (b := 0)),
    by decide +kernel, by decide +kernel, by decide +kernel, fold_lt (by decide), by decide +kernel, by decide +kernel,
    by decide +kernel, by decide +kernel⟩

/-- Settles O12: the state after CSUM_INIT is not blocked either, and holds what a second one writes. -/
theorem csumInitLoadsTheSeed : Obligations.CsumInitLoadsTheSeed := by
  refine ⟨rfl, decodeTriple_of_lt (by decide), acceptedWith_csumInit,
    refusedWhileBlocked_of_operation (.csumInit (a := 0) (b := 0)), fun s t hfree hexec => ?_⟩
  obtain rfl := acceptedWith_csumInit.eq_opDone hfree hexec
  exact acceptedWith_csumInit _ (mt (blocked_opDone_csum ..).mp hfree)

/-- Settles O14: a second CSUM_FINAL is accepted as the first one was; a blocked one leaves CSUM alone. -/
theorem csumFinalOrsTheLength : Obligations.CsumFinalOrsTheLength := by
  refine ⟨decodeTriple_of_lt (by decide), acceptedWith_csumFinal,
    fun len => refusedWhileBlocked_of_operation (.csumFinal (b := 0)), ?highHalf, ?twice, ?zero, by decide⟩
  case highHalf =>
    intro len s
    show execCsumFinal len s = execCsumFinal (len &&& 0xFFFF#32) s
    simp only [execCsumFinal, finalize_and_low_half]
  case twice =>
    intro len len' s t u hfree hfirst hsecond
    obtain rfl := (acceptedWith_csumFinal len).eq_opDone hfree hfirst
    obtain rfl := (acceptedWith_csumFinal len').eq_opDone (mt (blocked_opDone_csum ..).mp hfree) hsecond
    rfl
  case zero =>
    intro s t hexec
    rcases unlessBlocked_next (show execCsumFinal 0 s = .next t from hexec) with ⟨-, rfl⟩ | ⟨-, rfl⟩
    · simp
    · simp

end Sys2Proof.Machine
end

section
/-! PROOFS. An operation that OPBLOCKED lets through has its own effect (30_encoding.md R97). -/

namespace Sys2Proof.Machine

theorem unlessBlocked_of_not_blocked {s : State} (hfree : ¬ Blocked s) (f : State → State) :
    unlessBlocked s f = .next (f s) := by
  rw [← opBlocked_iff_blocked, Bool.not_eq_true] at hfree
  exact unlessBlocked_of_free hfree f

end Sys2Proof.Machine
end

section
/-! PROOFS. The derivation of the local key from the window (41_key_exchange.md R151 to R156): which bits of the window
it depends on, and KDF. -/

namespace Sys2Proof.Machine

/-! ## The window's index (R151) -/

/-- Clearing a word's low three bits is shifting them out and back. -/
theorem and_not_seven (w : Word) : w &&& ~~~7#32 = w >>> 3 <<< 3 :=
  (BitVec.shiftLeft_ushiftRight (x := w) (n := 3)).symm

theorem toNat_kdfIndex (p : Config.Params) (w : Word) :
    (kdfIndex p w).toNat = (2 ^ 32 - p.minWindow.toNat + w.toNat) % 2 ^ 32 / 8 := by
  rw [kdfIndex, BitVec.toNat_ushiftRight, BitVec.toNat_sub, Nat.shiftRight_eq_div_pow]

/-- The index does not see the window's low three bits, where MIN_WINDOW has none of them (R156). -/
theorem kdfIndex_and_not_seven {p : Config.Params} (hmin : p.minWindow &&& 7#32 = 0#32) (w : Word) :
    kdfIndex p (w &&& ~~~7#32) = kdfIndex p w := by
  have hmod : p.minWindow.toNat % 8 = 0 := (and_seven_eq_zero_iff _).mp hmin
  have hw : (w >>> 3 <<< 3).toNat = w.toNat / 8 * 8 % 2 ^ 32 := by
    rw [BitVec.toNat_shiftLeft, BitVec.toNat_ushiftRight, Nat.shiftLeft_eq, Nat.shiftRight_eq_div_pow]
  apply BitVec.eq_of_toNat_eq
  rw [toNat_kdfIndex, toNat_kdfIndex, and_not_seven, hw]
  omega

/-- Two windows 0x40000 apart have the same index in bits 14:0, whatever MIN_WINDOW is (R155). -/
theorem kdfIndex_add_period (p : Config.Params) (w : Word) :
    kdfIndex p (w + 0x40000#32) &&& 0x7FFF#32 = kdfIndex p w &&& 0x7FFF#32 := by
  have hlow (x : Word) : (x &&& 0x7FFF#32).toNat = x.toNat % 2 ^ 15 := by
    rw [BitVec.toNat_and]
    exact Nat.and_two_pow_sub_one_eq_mod x.toNat 15
  have hadd : (w + 0x40000#32).toNat = (w.toNat + 0x40000) % 2 ^ 32 := BitVec.toNat_add ..
  apply BitVec.eq_of_toNat_eq
  rw [hlow, hlow, toNat_kdfIndex, toNat_kdfIndex, hadd]
  omega

/-! ## The key (R152 to R154) -/

/-- Each mask of R152 selects bits of `n[14:0]`. -/
theorem kdfSpread_low_bits (p : Config.Params) (n : Word) : kdfSpread p (n &&& 0x7FFF#32) = kdfSpread p n := by
  simp only [kdfSpread, BitVec.and_assoc, BitVec.reduceAnd]

/-- The key depends on `n[14:0]` alone (R155). -/
theorem deriveLocalKey_congr {p : Config.Params} {v w : Word}
    (h : kdfIndex p v &&& 0x7FFF#32 = kdfIndex p w &&& 0x7FFF#32) : deriveLocalKey p v = deriveLocalKey p w := by
  rw [deriveLocalKey, deriveLocalKey, ← kdfSpread_low_bits p (kdfIndex p v), h, kdfSpread_low_bits]

theorem deriveLocalKey_add_period (p : Config.Params) (w : Word) :
    deriveLocalKey p (w + 0x40000#32) = deriveLocalKey p w :=
  deriveLocalKey_congr (kdfIndex_add_period p w)

theorem deriveLocalKey_and_not_seven {p : Config.Params} (hmin : p.minWindow &&& 7#32 = 0#32) (w : Word) :
    deriveLocalKey p (w &&& ~~~7#32) = deriveLocalKey p w := by
  rw [deriveLocalKey, deriveLocalKey, kdfIndex_and_not_seven hmin]

/-- R154 asks whether bit 9 is clear, the model whether it is set. -/
theorem kdfKey_eq (p : Config.Params) (v : Word) :
    kdfKey p v = bswap32 v ^^^ (if v.getLsbD 9 = false then p.kdfC0 else p.kdfC1) := by
  unfold kdfKey
  cases v.getLsbD 9 <;> rfl

/-! ## KDF (R156) -/

theorem exec_kdf_of_lt {w : Word} {s : State} (hfree : ¬ Blocked s) (hw : w < s.params.minWindow) :
    exec (.kdf w) s = .next (opRefused .windowTooSmall 4 s) := by
  show execKdf w s = _
  rw [execKdf, unlessBlocked_of_not_blocked hfree, if_pos hw, reject_eq_opRefused]
  rfl

theorem exec_kdf_of_le {w : Word} {s : State} (hfree : ¬ Blocked s) (hw : s.params.minWindow ≤ w) :
    exec (.kdf w) s = .next (opDone (deriveLocalKey s.params w) { s with localKey := deriveLocalKey s.params w }) := by
  show execKdf w s = _
  rw [execKdf, unlessBlocked_of_not_blocked hfree, if_neg (BitVec.not_lt.mpr hw)]
  rfl

/-! ## The statements -/

/-- Settles O16: the trace by evaluating it, the rest by the bits that the index is read through. -/
theorem localKeyExampleAndAliases : Obligations.LocalKeyExampleAndAliases :=
  ⟨by decide, by decide, by decide, by decide, by decide, by decide, by decide, by decide,
    fun _ _ _ h => deriveLocalKey_congr h, fun p w _ _ => deriveLocalKey_add_period p w⟩

/-- Settles O15: the formula written out is `deriveLocalKey`; the source's MIN_WINDOW is a multiple of 8. -/
theorem kdfDerivesTheLocalKey : Obligations.KdfDerivesTheLocalKey := by
  unfold Obligations.KdfDerivesTheLocalKey
  intro key source
  have hformula : key = deriveLocalKey := funext₂ fun p _ => (kdfKey_eq p _).symm
  clear_value key
  subst hformula
  refine ⟨rfl, rfl, rfl, rfl, rfl, decodeTriple_of_lt (by decide), fun w s => exec_kdf_of_lt, fun w s => exec_kdf_of_le,
    fun w => refusedWhileBlocked_of_operation (.kdf (b := 0)), fun b w _ => ?_,
    fun b => ⟨deriveLocalKey_add_period (source b) 0x200, by cases b <;> decide⟩⟩
  exact (deriveLocalKey_and_not_seven (show 0x200#32 &&& 7#32 = 0#32 from rfl) w).symm

end Sys2Proof.Machine
end

section
/-! PROOFS. The decoding of the remote key and the seeding of the cipher (41_key_exchange.md R157 to R161). -/

namespace Sys2Proof

/-! ## Byte order and XOR (R11) -/

theorem byteOf_xor (k : Nat) (v w : Word) : byteOf k (v ^^^ w) = byteOf k v ^^^ byteOf k w :=
  BitVec.extractLsb'_xor

theorem le32_xor (a0 a1 a2 a3 b0 b1 b2 b3 : Byte) :
    le32 a0 a1 a2 a3 ^^^ le32 b0 b1 b2 b3 = le32 (a0 ^^^ b0) (a1 ^^^ b1) (a2 ^^^ b2) (a3 ^^^ b3) := by
  simp only [le32]
  rw [BitVec.xor_append, BitVec.xor_append, BitVec.xor_append]

end Sys2Proof

namespace Sys2Proof.Machine

theorem bswap32_xor (v w : Word) : bswap32 (v ^^^ w) = bswap32 v ^^^ bswap32 w := by
  simp only [bswap32, byteOf_xor, le32_xor]

@[simp] theorem bswap32_bswap32 (v : Word) : bswap32 (bswap32 v) = v := by simp [bswap32]

/-! ## The effects of RKEY and KSEED -/

theorem acceptedWith_rkey (rw : Word) :
    AcceptedWith (.rkey rw) (fun s => rw ^^^ s.params.remoteKeyXor)
      (fun s => { s with remoteKey := rw ^^^ s.params.remoteKeyXor }) :=
  acceptedWith_of_exec fun s => show execRkey rw s = _ from rfl

theorem acceptedWith_kseed :
    AcceptedWith .kseed (fun s => seedKey s.params s.localKey s.remoteKey)
      (fun s => { s with key := seedKey s.params s.localKey s.remoteKey }) :=
  acceptedWith_of_exec fun s => show execKseed s = _ from rfl

/-- The default SEED_FN is the remote key (R160). -/
theorem seedKey_of_remote {p : Config.Params} (h : p.seedFn = .remote) (l r : Word) : seedKey p l r = r := by
  rw [seedKey, h]

/-- OPBLOCKED depends on neither OPR, nor the answer line, nor KEY. -/
theorem blocked_opDone_key (v k k' : Word) (s : State) :
    Blocked { opDone v { s with key := k } with key := k' } ↔ Blocked s := .rfl

/-! ## The statements -/

/-- Settles O17: a byte swap goes through an XOR and undoes another one, so the constant alone is swapped. -/
theorem rkeyDecodesTheReceivedWord : Obligations.RkeyDecodesTheReceivedWord := by
  have hbytes : le32 0x73#8 0x65#8 0x64#8 0x6F#8 = 0x6F646573#32 := by decide
  have hswap : bswap32 0x7365646F#32 = 0x6F646573#32 := by decide
  refine ⟨fun v => ?_, fun b0 b1 b2 b3 => ?_, rfl, decodeTriple_of_lt (by decide), acceptedWith_rkey,
    fun v => refusedWhileBlocked_of_operation (.rkey (b := 0)), by decide, by decide, hbytes, by decide, by decide⟩
  · rw [bswap32_xor, bswap32_bswap32]
    exact congrArg (v ^^^ ·) hswap
  · exact (congrArg (le32 b0 b1 b2 b3 ^^^ ·) hbytes.symm).trans (le32_xor ..)

/-- Settles O18: a second KSEED is accepted as the first one was, and reads no KEY. -/
theorem kseedSeedsTheCipher : Obligations.KseedSeedsTheCipher := by
  refine ⟨decodeTriple_of_lt (by decide), acceptedWith_kseed,
    refusedWhileBlocked_of_operation (.kseed (a := 0) (b := 0)), fun p l r h => seedKey_of_remote h l r, rfl,
    ⟨_, rfl, rfl⟩, fun s t u k hfree hfirst hsecond => ?_⟩
  obtain rfl := acceptedWith_kseed.eq_opDone hfree hfirst
  exact (acceptedWith_kseed.eq_opDone (mt (blocked_opDone_key _ _ k s).mp hfree) hsecond :)

end Sys2Proof.Machine
end

section
/-! PROOFS. The key advance and the mask of the stream cipher (42_stream_cipher.md R181 to R183), and the operations on
them (R186 to R188). -/

namespace Sys2Proof.Machine

/-! ## The key advance and the mask, in the spec's order -/

theorem adv_eq (p : Config.Params) (k : Word) : adv p k = k * p.lcgMul + p.lcgInc := by
  rw [adv, BitVec.mul_comm]

/-- The spec negates by complementing and adding one. -/
theorem cipherMask_eq (p : Config.Params) (k o : Word) :
    cipherMask p k o = k ^^^ (~~~(o + p.maskOfsBias) + 1#32) ^^^ p.maskConst := by
  rw [cipherMask, BitVec.add_comm, BitVec.neg_eq_not_add]

/-- Masking twice with one mask recovers the word. -/
theorem xor_xor_self (w m : Word) : w ^^^ m ^^^ m = w := by
  rw [BitVec.xor_assoc, BitVec.xor_self, BitVec.xor_zero]

/-! ## The offset term (R183) -/

/-- `T(o)` of R183: what the mask adds to the key. -/
def offsetTerm (p : Config.Params) (o : Word) : Word := -(p.maskOfsBias + o) ^^^ p.maskConst

theorem cipherMask_eq_xor_offsetTerm (p : Config.Params) (k o : Word) : cipherMask p k o = k ^^^ offsetTerm p o :=
  BitVec.xor_assoc ..

/-- Removing the key from the mask leaves the offset term. -/
theorem cipherMask_xor_key (p : Config.Params) (k o : Word) : cipherMask p k o ^^^ k = offsetTerm p o := by
  rw [cipherMask_eq_xor_offsetTerm, BitVec.xor_comm k, xor_xor_self]

/-- At the offset that cancels the bias, the term is MASK_CONST alone (R187). -/
theorem offsetTerm_of_bias_cancelled {p : Config.Params} {o : Word} (h : p.maskOfsBias + o = 0#32) :
    offsetTerm p o = p.maskConst := by
  rw [offsetTerm, h, BitVec.neg_zero, BitVec.zero_xor]

/-! ## The effects of KADV, MASK and CRYPT -/

theorem acceptedWith_kadv :
    AcceptedWith .kadv (fun s => adv s.params s.key) (fun s => { s with key := adv s.params s.key }) :=
  acceptedWith_of_exec fun s => show execKadv s = _ from rfl

theorem acceptedWith_mask (o w : Word) :
    AcceptedWith (.mask o w) (fun s => w ^^^ cipherMask s.params s.key o) id :=
  acceptedWith_of_exec fun s => show execMask o w s = _ from rfl

theorem acceptedWith_crypt (o w : Word) :
    AcceptedWith (.crypt o w) (fun s => w ^^^ cipherMask s.params (adv s.params s.key) o)
      (fun s => { s with key := adv s.params s.key }) :=
  acceptedWith_of_exec fun s => show execCrypt o w s = _ from rfl

/-- CRYPT of its own result, from the same key, recovers the word: the second run masks with the same mask (R188). -/
theorem crypt_crypt {o w : Word} {s t u : State} (hfree : ¬ Blocked s) (hencrypt : exec (.crypt o w) s = .next t)
    (hdecrypt : exec (.crypt o t.opr) { t with key := s.key } = .next u) : u.opr = w := by
  obtain rfl := (acceptedWith_crypt o w).eq_opDone hfree hencrypt
  obtain rfl := (acceptedWith_crypt o _).eq_opDone (mt (blocked_opDone_key _ _ s.key s).mp hfree) hdecrypt
  exact xor_xor_self w (cipherMask s.params (adv s.params s.key) o)

/-! ## The statements -/

/-- Settles O19: the mask without the key is the offset term, which no key enters. -/
theorem maskFormula : Obligations.MaskFormula :=
  ⟨cipherMask_eq, rfl, by decide, rfl,
    fun p k k' o => (cipherMask_xor_key p k o).trans (cipherMask_xor_key p k' o).symm, by decide, by decide⟩

/-- Settles O20: KADV's effect, with the advance in the spec's order of the factors. -/
theorem kadvAdvancesTheKey : Obligations.KadvAdvancesTheKey := by
  refine ⟨rfl, rfl, decodeTriple_of_lt (by decide), ?effect,
    refusedWhileBlocked_of_operation (.kadv (a := 0) (b := 0)), by decide, by decide, by decide, by decide, by decide⟩
  case effect =>
    simp only [← adv_eq]
    exact acceptedWith_kadv

/-- Settles O21: MASK's effect; 0xFE000000 is the offset that cancels the source's bias. -/
theorem maskAppliesTheCurrentMask : Obligations.MaskAppliesTheCurrentMask := by
  refine ⟨decodeTriple_of_lt (by decide), acceptedWith_mask, fun o w => refusedWhileBlocked_of_operation .mask,
    fun k => ?cancelled, fun _ _ _ => BitVec.zero_xor, by decide⟩
  case cancelled =>
    rw [cipherMask_eq_xor_offsetTerm, offsetTerm_of_bias_cancelled (by decide)]
    rfl

/-- Settles O22: CRYPT's effect, and `crypt_crypt` for the decryption. -/
theorem cryptAdvancesThenMasks : Obligations.CryptAdvancesThenMasks :=
  ⟨decodeTriple_of_lt (by decide), acceptedWith_crypt, fun o w => refusedWhileBlocked_of_operation .crypt,
    by decide, by decide, by decide, by decide, by decide, by decide, fun _ _ _ _ _ => crypt_crypt⟩

end Sys2Proof.Machine
end

section
/-! PROOFS. The wire commands as exchanges, and the fill of a timed-out receive buffer (43_handshake.md R205,
92_eei_decisions.md D20). -/

namespace Sys2Proof.Machine

/-! ## A wire command is the exchange of its request (R320 to R324) -/

theorem exec_of_requestOf {p : Config.Params} {i : Instr} {r : Request} (h : requestOf p i = some r) (s : State) :
    exec i s = exchange r.tx r.replyLen s := by
  cases i with
  | wireReset => obtain rfl := Option.some.inj h; rfl
  | wireStatus => obtain rfl := Option.some.inj h; rfl
  | wireRead => obtain rfl := Option.some.inj h; rfl
  | wireWrite v => obtain rfl := Option.some.inj h; rfl
  | _ => cases h

/-- Every wire command expects a reply (R91). -/
theorem replyLen_pos_of_requestOf {p : Config.Params} {i : Instr} {r : Request} (h : requestOf p i = some r) :
    0 < r.replyLen := by
  cases i with
  | wireReset => obtain rfl := Option.some.inj h; exact Nat.succ_pos _
  | wireStatus => obtain rfl := Option.some.inj h; exact Nat.succ_pos _
  | wireRead => obtain rfl := Option.some.inj h; exact Nat.succ_pos _
  | wireWrite v => obtain rfl := Option.some.inj h; exact Nat.succ_pos _
  | _ => cases h

/-- A response that fits completes the exchange. -/
theorem exchange_of_fits {tx : List Byte} {m : Nat} {s : State} (h : replyFits m s = true) :
    exchange tx m s = .next (exchanged tx m s) := if_pos h

/-- A timeout always fits. -/
theorem replyFits_of_timeout {m : Nat} {s : State} {z : BitVec 5} {rest : List Reply}
    (h : s.ports.replies = .timeout z :: rest) : replyFits m s = true := by
  rw [replyFits, h]
  rfl

theorem rx_exchanged_of_timeout {tx : List Byte} {m : Nat} {s : State} {z : BitVec 5} {rest : List Reply}
    (h : s.ports.replies = .timeout z :: rest) : (exchanged tx m s).rx = s.rx.fill m (rxFill z) := by
  rw [exchanged_of_timeout h]

/-! ## The choice of the zeroed bytes (R320, D20) -/

/-- The timeout response that zeroes the chosen bytes. -/
def fillChoice (zero : Nat → Bool) : BitVec 5 := BitVec.ofFnLE fun i => zero i

theorem rxFill_fillChoice (zero : Nat → Bool) {i : Nat} (hi : i < 5) (old : Byte) :
    rxFill (fillChoice zero) i old = if zero i then 0 else old := by
  rw [rxFill, fillChoice, BitVec.getLsbD_ofFnLE, dif_pos hi]
  rfl

/-- Settles O37: the response whose bits are the choice. -/
theorem everyRxfillChoiceIsAdmitted : Obligations.EveryRxfillChoiceIsAdmitted := by
  intro i r s rest zero hr
  have hpos := replyLen_pos_of_requestOf hr
  refine ⟨fillChoice zero, _, (exec_of_requestOf hr _).trans (exchange_of_fits (replyFits_of_timeout rfl)), ?_⟩
  rw [rx_exchanged_of_timeout rfl]
  have filled {k : Nat} (hk : k < r.replyLen) (h5 : k < 5) (old : Byte) :
      (if k < r.replyLen then rxFill (fillChoice zero) k old else old) = if zero k then 0 else old := by
    rw [if_pos hk, rxFill_fillChoice zero h5]
  exact ⟨filled hpos (by decide) _,
    fun h3 => ⟨filled (by omega) (by decide) _, filled (by omega) (by decide) _⟩,
    fun h5 => ⟨filled (by omega) (by decide) _, filled (by omega) (by decide) _⟩⟩

end Sys2Proof.Machine
end

section
/-! PROOFS. The handshake (43_handshake.md R200 to R207): where an iteration starts after the probe, its two exchanges,
and how it ends. -/

namespace Sys2Proof.Machine

/-! ## From the probe to the start of an iteration (R202, R254, R291 to R293) -/

/-- The state between the link update and the state action, when the probe word is scripted (R291). -/
def polled (p : Word) (ps : List Word) (s : State) : State :=
  { s with lstat := (linkUpdate p s).lstat, dcnt := (linkUpdate p s).dcnt, xpend := false,
           ports := { s.ports with probeCount := s.ports.probeCount + 1, probes := ps } }

theorem step_eq_stateAction_polled {s : State} {p : Word} {ps : List Word} (h : s.ports.inputs = [])
    (hq : s.seq = .probe) (hp : s.ports.probes = p :: ps) : step s = .next (stateAction (polled p ps s)) :=
  step_of_probe h hq hp

theorem stateAction_of_waiting {s : State} (h : s.ustate = .waitingForPeer) : stateAction s = waitingAction s := by
  rw [stateAction, h]

theorem stateAction_of_peerReady {s : State} (h : s.ustate = .peerReady) : stateAction s = readyAction s := by
  rw [stateAction, h]

theorem readyAction_of_handshake {s : State} (h : s.uph = .handshake) : readyAction s = uploadIteration s := if_pos h

theorem startHandshake_of_awaiting {s : State} (h : s.hsst = .awaitingBios) :
    startHandshake s = { s with hsp := false } := by
  rw [startHandshake, ← h]

/-- Where a handshake is running, starting it again changes nothing that the iteration does not set (R201, R202). -/
theorem beginIteration_startHandshake {s : State} (h : s.hsst = .awaitingBios) :
    beginIteration (startHandshake s) = beginIteration s := by
  rw [startHandshake_of_awaiting h]
  rfl

/-- On a Connected link WaitingForPeer begins an iteration; a handshake that is not running is started (R201, R292). -/
theorem waitingAction_of_connected {s : State} (hl : s.lstat = .connected) :
    waitingAction s = beginIteration (startHandshake s) := by
  unfold waitingAction
  split
  case isTrue hhsst => exact (if_pos hl).trans (beginIteration_startHandshake hhsst).symm
  case isFalse => exact if_pos hl

/-- On a Connected link both callers begin an iteration of a running handshake (R202, R254, R292). -/
theorem stateAction_begins_iteration {s : State} (hl : s.lstat = .connected)
    (hu : s.ustate = .waitingForPeer ∨ (s.ustate = .peerReady ∧ s.uph = .handshake ∧ s.hsst = .awaitingBios)) :
    stateAction s = beginIteration (startHandshake s) := by
  rcases hu with hu | ⟨hu, huph, hhsst⟩
  · rw [stateAction_of_waiting hu, waitingAction_of_connected hl]
  · rw [stateAction_of_peerReady hu, readyAction_of_handshake huph, beginIteration_startHandshake hhsst]
    exact if_pos hl

/-- The end of an iteration that finds the link not Connected, for both callers: the handshake is aborted in
WaitingForPeer, and an upload in its step 1 has failed (R202, R254, R292, R293). -/
def iterationLost (s : State) : State :=
  endFrame { abortHandshake s with
    ustate := .waitingForPeer, uph := if s.ustate = .peerReady then .failed else s.uph }

theorem stateAction_loses_iteration {s : State} (hl : s.lstat ≠ .connected) (hhsst : s.hsst = .awaitingBios)
    (hu : s.ustate = .waitingForPeer ∨ (s.ustate = .peerReady ∧ s.uph = .handshake)) :
    stateAction s = iterationLost s := by
  rcases hu with hu | ⟨hu, huph⟩
  · have hlost : iterationLost s = endFrame (abortHandshake s) := by simp [iterationLost, abortHandshake, raise, hu]
    rw [stateAction_of_waiting hu, hlost]
    exact (if_pos hhsst).trans (if_neg hl)
  · rw [stateAction_of_peerReady hu, readyAction_of_handshake huph, iterationLost, if_pos hu]
    exact if_neg hl

/-- Settles O50: the frame action ends right after the probe in `iterationLost`. -/
theorem handshakeAbort : Obligations.HandshakeAbort := by
  intro s p ps hin hq hhsst hu hp hl
  have hstep : step s = .next (iterationLost (polled p ps s)) :=
    (step_eq_stateAction_polled hin hq hp).trans
      (congrArg _ (stateAction_loses_iteration (s := polled p ps s) hl hhsst hu))
  have hraised {e : ErrCode} (he : linkError (linkUpdate p s).lstat = e) :
      (iterationLost (polled p ps s)).errBits = s.errBits ||| e.mask
        ∧ (iterationLost (polled p ps s)).lastErr = some e := by
    subst he
    exact ⟨rfl, rfl⟩
  exact ⟨_, hstep, rfl, rfl, rfl, rfl, rfl, rfl, rfl, rfl,
    fun hno : (linkUpdate p s).lstat = .noPeer => hraised (e := .peerAbsent) (by rw [hno]; rfl),
    fun hwrong : (linkUpdate p s).lstat = .wrongPeerType => hraised (e := .peerWrongType) (by rw [hwrong]; rfl)⟩

/-! ## The two exchanges of an iteration (R202, R204) -/

theorem step_of_hsReset {s : State} (h : s.ports.inputs = []) (hq : s.seq = .hsReset) (hf : replyFits 3 s = true) :
    step s = .next (afterReset (exchanged [0xFF#8] 3 s)) := by
  simpa [prepare, resume, replyLenOf, hq] using step_of_exchange h (hq ▸ ⟨nofun, nofun⟩) (hq ▸ hf)

theorem step_of_hsStatus {s : State} (h : s.ports.inputs = []) (hq : s.seq = .hsStatus) (hf : replyFits 3 s = true) :
    step s = .next (afterStatus (exchanged [0x00#8] 3 s)) := by
  simpa [prepare, resume, replyLenOf, hq] using step_of_exchange h (hq ▸ ⟨nofun, nofun⟩) (hq ▸ hf)

/-- The state in which an iteration reads READY: Reset and Status were exchanged. -/
def statusReceived (s : State) : State := exchanged [0x00#8] 3 (afterReset (exchanged [0xFF#8] 3 s))

theorem runSteps_two_of_hsReset {s : State} (h : s.ports.inputs = []) (hq : s.seq = .hsReset)
    (hf : repliesFit [3, 3] s.ports.replies = true) : runSteps 2 s = .next (afterStatus (statusReceived s)) := by
  obtain ⟨hreset, hrest⟩ := repliesFit_cons hf
  have hinputs : (afterReset (exchanged [0xFF#8] 3 s)).ports.inputs = [] := by
    simp [afterReset, exchanged_frame [0xFF#8] 3 s, h]
  have hreplies : (afterReset (exchanged [0xFF#8] 3 s)).ports.replies = s.ports.replies.tail :=
    exchanged_replies [0xFF#8] 3 s
  obtain ⟨hstatus, -⟩ := repliesFit_cons (hreplies ▸ hrest)
  rw [runSteps_succ (step_of_hsReset h hq hreset), runSteps_succ (step_of_hsStatus hinputs rfl hstatus), runSteps_zero]
  rfl

/-- Whatever is answered, the two exchanges leave these registers alone. -/
theorem statusReceived_frame (s : State) :
    let u := statusReceived s
    u.hsst = s.hsst ∧ u.ustate = s.ustate ∧ u.uph = s.uph ∧ u.busy = s.busy ∧ u.atfb = s.atfb ∧ u.lstat = s.lstat
      ∧ u.dcnt = s.dcnt ∧ u.params = s.params ∧ u.ports.probes = s.ports.probes
      ∧ u.ports.probeCount = s.ports.probeCount := by
  simp only [statusReceived, exchanged_frame [0x00#8] 3 (afterReset (exchanged [0xFF#8] 3 s))]
  simp [afterReset, exchanged_frame [0xFF#8] 3 s]

theorem statusReceived_requests (s : State) :
    (statusReceived s).ports.requests =
      ⟨[0x00#8], 3, s.params.xchgTimeout⟩ :: ⟨[0xFF#8], 3, s.params.xchgTimeout⟩ :: s.ports.requests := by
  simp only [statusReceived, exchanged_frame [0x00#8] 3 (afterReset (exchanged [0xFF#8] 3 s))]
  simp [afterReset, exchanged_frame [0xFF#8] 3 s]

/-! ## The end of an iteration (R202, R203, R254, R292) -/

theorem peerIsReady_iff (s : State) : peerIsReady s = true ↔ s.rx.b2 &&& s.params.readyBit ≠ 0#8 := bne_iff_ne

/-- Without READY the frame action ends. -/
theorem afterStatus_of_not_ready {s : State} (h : s.rx.b2 &&& s.params.readyBit = 0#8) :
    afterStatus s = endFrame { s with hsp := false } :=
  if_neg fun hready => (peerIsReady_iff s).mp hready h

/-- READY ends the handshake of WaitingForPeer in PeerReady. -/
theorem afterStatus_of_ready_waiting {s : State} (h : s.rx.b2 &&& s.params.readyBit ≠ 0#8)
    (hu : s.ustate = .waitingForPeer) :
    afterStatus s = endFrame { s with hsp := false, hsst := .ready, ustate := .peerReady } := by
  refine (if_pos ((peerIsReady_iff s).mpr h)).trans ?_
  simp [hu]

/-- READY ends step 1 of an upload: step 2 is next. -/
theorem afterStatus_of_ready_upload {s : State} (h : s.rx.b2 &&& s.params.readyBit ≠ 0#8)
    (hu : s.ustate = .peerReady) :
    afterStatus s = enterPhase .remoteKey .remoteKey { s with hsp := false, hsst := .ready } := by
  refine (if_pos ((peerIsReady_iff s).mpr h)).trans ?_
  simp [hu]

/-- However it ends, an iteration leaves the receive buffer, the link monitor and the ports as Status left them. -/
theorem afterStatus_frame (s : State) :
    (afterStatus s).rx = s.rx ∧ (afterStatus s).lstat = s.lstat ∧ (afterStatus s).dcnt = s.dcnt
      ∧ (afterStatus s).ports = s.ports ∧ (afterStatus s).hsp = false := by
  unfold afterStatus
  dsimp only
  split
  · split <;> exact ⟨rfl, rfl, rfl, rfl, rfl⟩
  · exact ⟨rfl, rfl, rfl, rfl, rfl⟩

/-! ## A whole iteration (R202, R203, R205, R254, R292) -/

/-- What an iteration on a Connected link that starts in `s` leaves in `t`, with HSST `pending` if the peer is not
ready. -/
def Iterated (s t : State) (pending : HandshakeState) : Prop :=
  t.ports.requests = ⟨[0x00#8], 3, s.params.xchgTimeout⟩ :: ⟨[0xFF#8], 3, s.params.xchgTimeout⟩ :: s.ports.requests
  ∧ t.hsp = false
  ∧ (t.rx.b2 &&& s.params.readyBit ≠ 0 → t.hsst = .ready ∧ t.ustate = .peerReady
      ∧ (s.ustate = .waitingForPeer → t.uph = s.uph ∧ t.seq = .none ∧ t.busy = false ∧ t.atfb = true)
      ∧ (s.ustate = .peerReady → t.uph = .remoteKey ∧ t.seq = .remoteKey ∧ t.busy = s.busy ∧ t.atfb = s.atfb))
  ∧ (t.rx.b2 &&& s.params.readyBit = 0 → t.hsst = pending ∧ t.ustate = s.ustate ∧ t.uph = s.uph ∧ t.seq = .none
      ∧ t.busy = false ∧ t.atfb = true)

theorem iterated_afterStatus {s : State} (hu : s.ustate = .waitingForPeer ∨ s.ustate = .peerReady) :
    Iterated s (afterStatus (statusReceived s)) s.hsst := by
  obtain ⟨hhsst, hustate, huph, hbusy, hatfb, -, -, hparams, -, -⟩ := statusReceived_frame s
  have hrequests := statusReceived_requests s
  generalize statusReceived s = u at *
  obtain ⟨hrx, -, -, hports, hhsp⟩ := afterStatus_frame u
  refine ⟨hports ▸ hrequests, hhsp, fun hready => ?ready, fun hnot => ?notReady⟩
  case notReady =>
    rw [hrx, ← hparams] at hnot
    rw [afterStatus_of_not_ready hnot]
    exact ⟨hhsst, hustate, huph, rfl, rfl, rfl⟩
  case ready =>
    rw [hrx, ← hparams] at hready
    rcases hu with hu | hu
    · rw [afterStatus_of_ready_waiting hready (hustate.trans hu)]
      exact ⟨rfl, rfl, fun _ => ⟨huph, rfl, rfl, rfl⟩, fun hup => absurd (hu.symm.trans hup) nofun⟩
    · rw [afterStatus_of_ready_upload hready (hustate.trans hu)]
      exact ⟨rfl, hustate.trans hu, fun hwait => absurd (hu.symm.trans hwait) nofun,
        fun _ => ⟨rfl, rfl, hbusy, hatfb⟩⟩

theorem runSteps_two_iterated {s : State} (h : s.ports.inputs = []) (hq : s.seq = .hsReset)
    (hu : s.ustate = .waitingForPeer ∨ s.ustate = .peerReady) (hf : repliesFit [3, 3] s.ports.replies = true) :
    ∃ t, runSteps 2 s = .next t ∧ Iterated s t s.hsst ∧ t.lstat = s.lstat ∧ t.dcnt = s.dcnt
      ∧ t.ports.probes = s.ports.probes ∧ t.ports.probeCount = s.ports.probeCount := by
  obtain ⟨-, -, -, -, -, hlstat, hdcnt, -, hprobes, hcount⟩ := statusReceived_frame s
  obtain ⟨-, hlstat', hdcnt', hports, -⟩ := afterStatus_frame (statusReceived s)
  exact ⟨_, runSteps_two_of_hsReset h hq hf, iterated_afterStatus hu, hlstat'.trans hlstat, hdcnt'.trans hdcnt,
    hports ▸ hprobes, hports ▸ hcount⟩

/-- Settles O49: the state action after the probe begins the iteration, whose two exchanges are
`runSteps_two_iterated`. -/
theorem handshakeIteration : Obligations.HandshakeIteration := by
  refine ⟨rfl, fun s hin hq hu hfit => ?fromReset, fun s p ps hin hq hu hp hl hfit => ?fromProbe⟩
  case fromReset =>
    obtain ⟨t, hrun, hiterated, hlstat, -⟩ := runSteps_two_iterated hin hq (hu.imp_right And.left) hfit
    exact ⟨t, hrun, hiterated, hlstat⟩
  case fromProbe =>
    have hstep : step s = .next (beginIteration (startHandshake (polled p ps s))) :=
      (step_eq_stateAction_polled hin hq hp).trans
        (congrArg _ (stateAction_begins_iteration (s := polled p ps s) hl hu))
    obtain ⟨t, hrun, hiterated, hlstat, hdcnt, hprobes, hcount⟩ :=
      runSteps_two_iterated (s := beginIteration (startHandshake (polled p ps s))) hin rfl (hu.imp_right And.left) hfit
    exact ⟨t, (runSteps_succ hstep 2).trans hrun, hiterated, hlstat.trans hl, hdcnt, hprobes, hcount⟩

end Sys2Proof.Machine
end

section
/-! PROOFS. The link monitor (44_link_monitor.md R222 to R230): the class of a probe word, the update for each class, a
run of inconclusive probes, LPOLL and LDROP. -/

namespace Sys2Proof.Machine

/-! ## The class of a probe word (R222) -/

/-- The error code is the low byte of a probe word. -/
theorem and_low_byte_eq_zero_iff (q : Word) : q &&& 0xFF#32 = 0#32 ↔ q.extractLsb' 0 8 = 0#8 := by
  have hlow : q.toNat &&& 0xFF = q.toNat % 2 ^ 8 := Nat.and_two_pow_sub_one_eq_mod q.toNat 8
  simp [← BitVec.toNat_inj, hlow]

/-- The classes as an if-chain over the fields: the error code first, then the peer type. -/
theorem classify_eq (p : Config.Params) (q : Word) :
    classify p q = if q.extractLsb' 0 8 ≠ 0#8 then .inconclusive
      else if q &&& 0xFFFFFF00#32 = p.peerTypeOk then .connectedType
      else if q &&& 0xFFFFFF00#32 = p.peerTypeSpurious then .spurious
      else .otherType := by
  simp only [classify, ne_eq, and_low_byte_eq_zero_iff]

/-! ## The link after a probe word of each class (R223 to R226) -/

@[simp] theorem countDown_toNat (d : Byte) : (countDown d).toNat = d.toNat - 1 := by
  unfold countDown
  split
  · bv_omega
  · bv_omega

theorem countDown_of_one_lt {d : Byte} (h : 1#8 < d) : countDown d = d - 1#8 :=
  if_pos (BitVec.lt_trans (by decide) h)

theorem countDown_eq_zero_iff (d : Byte) : countDown d = 0#8 ↔ d ≤ 1#8 := by
  rw [← BitVec.toNat_inj, countDown_toNat, BitVec.le_def]
  exact Nat.sub_eq_zero_iff_le

theorem linkUpdate_of_last_inconclusive {p : Word} {s : State} (h : classify s.params p = .inconclusive)
    (hd : s.dcnt ≤ 1#8) : linkUpdate p s = { s with lstat := .noPeer, dcnt := 0#8 } := by
  simp [linkUpdate, h, (countDown_eq_zero_iff s.dcnt).mpr hd]

theorem linkUpdate_of_inconclusive {p : Word} {s : State} (h : classify s.params p = .inconclusive)
    (hd : 1#8 < s.dcnt) : linkUpdate p s = { s with dcnt := s.dcnt - 1#8 } := by
  have hne : countDown s.dcnt ≠ 0#8 := mt (countDown_eq_zero_iff s.dcnt).mp (BitVec.not_le.mpr hd)
  rw [countDown_of_one_lt hd] at hne
  simp only [linkUpdate, h, countDown_of_one_lt hd, if_neg hne]

theorem linkUpdate_of_connectedType {p : Word} {s : State} (h : classify s.params p = .connectedType) :
    linkUpdate p s = { s with lstat := .connected, dcnt := s.params.debounceSeed } := by
  rw [linkUpdate, h]

theorem linkUpdate_of_spurious {p : Word} {s : State} (h : classify s.params p = .spurious) : linkUpdate p s = s := by
  rw [linkUpdate, h]

theorem linkUpdate_of_otherType {p : Word} {s : State} (h : classify s.params p = .otherType) :
    linkUpdate p s = { s with lstat := .wrongPeerType, dcnt := s.params.debounceSeed } := by
  rw [linkUpdate, h]

theorem linkUpdate_dcnt_of_inconclusive {p : Word} {s : State} (h : classify s.params p = .inconclusive) :
    (linkUpdate p s).dcnt = countDown s.dcnt := by
  rw [linkUpdate, h]

/-! ## Probes in a row (R230) -/

/-- The link after the probe words of a list. -/
def linkUpdates (qs : List Word) (s : State) : State := qs.foldl (fun u q => linkUpdate q u) s

@[simp] theorem linkUpdates_nil (s : State) : linkUpdates [] s = s := rfl

@[simp] theorem linkUpdates_cons (q : Word) (qs : List Word) (s : State) :
    linkUpdates (q :: qs) s = linkUpdates qs (linkUpdate q s) := rfl

/-- No run of probes takes DCNT = 0 and NoPeer apart (R30). -/
theorem linkOk_linkUpdates (qs : List Word) {s : State} (hseed : s.params.debounceSeed ≠ 0#8) (h : LinkOk s) :
    LinkOk (linkUpdates qs s) := by
  induction qs generalizing s with
  | nil => exact h
  | cons q qs ih => exact ih (by simpa using hseed) (linkOk_linkUpdate q hseed h)

/-- Inconclusive probes count DCNT down to 0, one each. -/
theorem linkUpdates_dcnt_of_inconclusive {qs : List Word} {s : State}
    (h : ∀ q ∈ qs, classify s.params q = .inconclusive) :
    (linkUpdates qs s).dcnt.toNat = s.dcnt.toNat - qs.length := by
  induction qs generalizing s with
  | nil => rfl
  | cons q qs ih =>
    obtain ⟨hq, hqs⟩ := List.forall_mem_cons.mp h
    rw [linkUpdates_cons, ih (by simpa using hqs), linkUpdate_dcnt_of_inconclusive hq, countDown_toNat,
      List.length_cons, Nat.sub_sub, Nat.add_comm]

/-- Fewer inconclusive probes than DCNT counts leave LSTAT alone. -/
theorem linkUpdates_lstat_of_inconclusive {qs : List Word} {s : State}
    (h : ∀ q ∈ qs, classify s.params q = .inconclusive) (hlen : qs.length < s.dcnt.toNat) :
    (linkUpdates qs s).lstat = s.lstat := by
  induction qs generalizing s with
  | nil => rfl
  | cons q qs ih =>
    obtain ⟨hq, hqs⟩ := List.forall_mem_cons.mp h
    rw [List.length_cons] at hlen
    have hrest : qs.length < (linkUpdate q s).dcnt.toNat := by
      rw [linkUpdate_dcnt_of_inconclusive hq, countDown_toNat]
      omega
    have hmore : 1#8 < s.dcnt := show 1 < s.dcnt.toNat by omega
    rw [linkUpdates_cons, ih (by simpa using hqs) hrest, linkUpdate_of_inconclusive hq hmore]

/-- A probe of the expected or of another type sets LSTAT and starts the count (R224, R226). -/
theorem linkUpdate_of_definite {p : Word} {s : State} {l : LinkStatus}
    (h : classify s.params p = .connectedType ∧ l = .connected
      ∨ classify s.params p = .otherType ∧ l = .wrongPeerType) :
    l ≠ .noPeer ∧ (linkUpdate p s).lstat = l ∧ (linkUpdate p s).dcnt = s.params.debounceSeed := by
  rcases h with ⟨hp, rfl⟩ | ⟨hp, rfl⟩
  · rw [linkUpdate_of_connectedType hp]
    exact ⟨by decide, rfl, rfl⟩
  · rw [linkUpdate_of_otherType hp]
    exact ⟨by decide, rfl, rfl⟩

/-! ## LPOLL and LDROP (R228, R229) -/

theorem acceptedWith_lpoll (p : Word) : AcceptedWith (.lpoll p) (fun s => linkWord (linkUpdate p s)) (linkUpdate p) :=
  acceptedWith_of_exec fun s => show execLpoll p s = _ from rfl

/-- LPOLL answers LINK as the probe word leaves it; LINK is register 8 of the read-back port. -/
theorem exec_lpoll_of_linkUpdate {p : Word} {s t : State} (hfree : ¬ Blocked s) (h : linkUpdate p s = t) :
    exec (.lpoll p) s = .next (opDone (readBack t 8) t) := by
  subst h
  exact acceptedWith_lpoll p s hfree

/-- LINK reads 0 when the link is down (R30). -/
@[simp] theorem linkWord_linkDrop (s : State) : linkWord (linkDrop s) = 0#32 := by
  simp [linkWord, LinkStatus.code]

theorem acceptedWith_ldrop : AcceptedWith .ldrop (fun _ => 0#32) linkDrop := by
  refine acceptedWith_of_exec fun s => ?_
  show execLdrop s = _
  simp only [execLdrop, linkWord_linkDrop]

/-- OPBLOCKED depends on neither OPR, nor the answer line, nor LINK. -/
theorem blocked_opDone_linkDrop (v : Word) (s : State) : Blocked (opDone v (linkDrop s)) ↔ Blocked s := .rfl

/-! ## The statements -/

/-- Settles O29: after the definite probe, DCNT counts the inconclusive probes down; LSTAT stays while DCNT is not 0, and
DCNT = 0 is NoPeer (R30). -/
theorem sixtyInconclusiveProbesDropTheLink : Obligations.SixtyInconclusiveProbesDropTheLink := by
  refine ⟨rfl, fun s p l qs hp hqs hseed => ?_⟩
  intro n t
  obtain ⟨hl, hlstat, hseeded⟩ := linkUpdate_of_definite hp
  have hrun : ∀ q ∈ qs, classify (linkUpdate p s).params q = .inconclusive := by simpa using hqs
  have hdcnt : t.dcnt.toNat = n - qs.length :=
    (linkUpdates_dcnt_of_inconclusive hrun).trans (by rw [hseeded])
  obtain ⟨hdown, -⟩ : LinkOk t :=
    linkOk_linkUpdates qs (by simpa using hseed) (by simpa [LinkOk, hlstat, hseeded, hl] using hseed)
  have hpos : n ≠ 0 := fun h => hseed (BitVec.eq_of_toNat_eq h)
  refine ⟨fun hlen => ⟨(linkUpdates_lstat_of_inconclusive hrun ?_).trans hlstat, hdcnt⟩, fun hlen => ?_⟩
  · rw [hseeded]
    show qs.length < n
    omega
  have hzero : t.dcnt = 0#8 := BitVec.eq_of_toNat_eq (by simpa [hlen] using hdcnt)
  exact ⟨hdown.mp hzero, hzero⟩

/-- Settles O27: LPOLL's effect, with the link update for each class of `classify_eq`. -/
theorem lpollAppliesTheProbeWord : Obligations.LpollAppliesTheProbeWord := by
  refine ⟨rfl, rfl, rfl, decodeTriple_of_lt (by decide), fun p => refusedWhileBlocked_of_operation (.lpoll (b := 0)),
    fun p s hfree => ?_⟩
  have hclass := classify_eq s.params p
  split
  next herror =>
    have hinconclusive := hclass.trans (if_pos herror)
    exact ⟨fun hd => exec_lpoll_of_linkUpdate hfree (linkUpdate_of_inconclusive hinconclusive hd),
      fun hd => exec_lpoll_of_linkUpdate hfree (linkUpdate_of_last_inconclusive hinconclusive hd)⟩
  next hnoError =>
    have htyped := hclass.trans (if_neg hnoError)
    split
    next hok => exact exec_lpoll_of_linkUpdate hfree (linkUpdate_of_connectedType (htyped.trans (if_pos hok)))
    next hnotOk =>
      have hunexpected := htyped.trans (if_neg hnotOk)
      split
      next hspurious =>
        exact exec_lpoll_of_linkUpdate hfree (linkUpdate_of_spurious (hunexpected.trans (if_pos hspurious)))
      next hother =>
        exact exec_lpoll_of_linkUpdate hfree (linkUpdate_of_otherType (hunexpected.trans (if_neg hother)))

/-- Settles O28: a second LDROP is accepted as the first one was, and writes what LINK and OPR hold already; a
Connected-type probe does not look at the link it finds. -/
theorem ldropForcesTheLinkDown : Obligations.LdropForcesTheLinkDown := by
  refine ⟨rfl, decodeTriple_of_lt (by decide), acceptedWith_ldrop,
    refusedWhileBlocked_of_operation (.ldrop (a := 0) (b := 0)), ?twice, ?probe, by decide⟩
  case twice =>
    intro s t hfree hexec
    obtain rfl := acceptedWith_ldrop.eq_opDone hfree hexec
    exact acceptedWith_ldrop _ (mt (blocked_opDone_linkDrop ..).mp hfree)
  case probe =>
    intro s t p hfree hexec hp
    obtain rfl := acceptedWith_ldrop.eq_opDone hfree hexec
    have hprobed := linkUpdate_of_connectedType (s := opDone 0#32 (linkDrop s)) hp
    exact ⟨congrArg State.lstat hprobed, congrArg State.dcnt hprobed⟩

end Sys2Proof.Machine
end

section
/-! PROOFS. The operations of the uploader (45_uploader.md R265 to R267), and what an image word is at and around
IMG_LEN. -/

namespace Sys2Proof.Machine

/-! ## Image words at and beyond IMG_LEN (R61) -/

theorem imageByte_of_lt {s : State} {a : Nat} (h : a < s.ports.imgLen.toNat) :
    imageByte s a = Memory.read s.ports.image a := if_pos h

theorem imageByte_of_le {s : State} {a : Nat} (h : s.ports.imgLen.toNat ≤ a) : imageByte s a = 0#8 :=
  if_neg (Nat.not_lt.mpr h)

theorem imageWord_of_le {s : State} {o : Word} (h : s.ports.imgLen ≤ o) : imageWord s o = 0#32 := by
  have hbyte (k : Nat) : imageByte s (o.toNat + k) = 0#8 := imageByte_of_le (Nat.le_add_right_of_le h)
  rw [imageWord, hbyte 1, hbyte 2, hbyte 3, show imageByte s o.toNat = 0#8 from hbyte 0]
  rfl

/-- A word that lies below IMG_LEN is made of the four bytes at its offset. -/
theorem imageWord_of_add_three_lt {s : State} {o : Word} (h : o.toNat + 3 < s.ports.imgLen.toNat) :
    imageWord s o = le32 (Memory.read s.ports.image o.toNat) (Memory.read s.ports.image (o.toNat + 1))
      (Memory.read s.ports.image (o.toNat + 2)) (Memory.read s.ports.image (o.toNat + 3)) := by
  rw [imageWord, imageByte_of_lt (by omega), imageByte_of_lt (by omega), imageByte_of_lt (by omega), imageByte_of_lt h]

/-! ## The effects of IMGRD, PAYW and SEAL -/

/-- R68's alignment, as the operations of R265 and R266 write it. -/
theorem aligned4_eq_true_iff (o : Word) : aligned4 o = true ↔ o &&& 3#32 = 0#32 := beq_iff_eq

/-- IMGRD and PAYW check their offset before their own effect `f` (R97, R265, R266). -/
theorem unlessBlocked_of_misaligned {o : Word} {s : State} (hfree : ¬ Blocked s) (ho : o &&& 3#32 ≠ 0#32)
    (f : State → State) :
    unlessBlocked s (fun s => if aligned4 o then f s else reject .misalignedOffset s)
      = .next (opRefused .misalignedOffset 8 s) := by
  rw [unlessBlocked_of_not_blocked hfree, if_neg (mt (aligned4_eq_true_iff o).mp ho), reject_eq_opRefused]
  rfl

theorem unlessBlocked_of_aligned {o : Word} {s : State} (hfree : ¬ Blocked s) (ho : o &&& 3#32 = 0#32)
    (f : State → State) :
    unlessBlocked s (fun s => if aligned4 o then f s else reject .misalignedOffset s) = .next (f s) := by
  rw [unlessBlocked_of_not_blocked hfree, if_pos ((aligned4_eq_true_iff o).mpr ho)]

theorem exec_imgrd_of_misaligned {o : Word} {s : State} (hfree : ¬ Blocked s) (ho : o &&& 3#32 ≠ 0#32) :
    exec (.imgrd o) s = .next (opRefused .misalignedOffset 8 s) := by
  show execImgrd o s = _
  rw [execImgrd, unlessBlocked_of_misaligned hfree ho]

theorem exec_imgrd_of_aligned {o : Word} {s : State} (hfree : ¬ Blocked s) (ho : o &&& 3#32 = 0#32) :
    exec (.imgrd o) s = .next (opDone (imageWord s o) s) := by
  show execImgrd o s = _
  rw [execImgrd, unlessBlocked_of_aligned hfree ho]
  rfl

theorem exec_payw_of_misaligned {o : Word} {s : State} (hfree : ¬ Blocked s) (ho : o &&& 3#32 ≠ 0#32) :
    exec (.payw o) s = .next (opRefused .misalignedOffset 8 s) := by
  show execPayw o s = _
  rw [execPayw, unlessBlocked_of_misaligned hfree ho]

theorem exec_payw_of_aligned {o : Word} {s : State} (hfree : ¬ Blocked s) (ho : o &&& 3#32 = 0#32) :
    exec (.payw o) s = .next (opDone (imageWord s o ^^^ cipherMask s.params (adv s.params s.key) o)
      { s with csum := fold s.params s.csum (imageWord s o), key := adv s.params s.key }) := by
  show execPayw o s = _
  rw [execPayw, unlessBlocked_of_aligned hfree ho]
  rfl

theorem acceptedWith_seal (len o : Word) :
    AcceptedWith (.sealCsum len o)
      (fun s => (s.csum ||| (len <<< 16)) ^^^ cipherMask s.params (adv s.params s.key) o)
      (fun s => { s with csum := s.csum ||| (len <<< 16), key := adv s.params s.key }) :=
  acceptedWith_of_exec fun s => show execSeal len o s = _ from rfl

/-- OPBLOCKED depends on neither OPR, nor the answer line, nor CSUM, nor KEY. -/
theorem blocked_opDone_csum_key (v c k : Word) (s : State) :
    Blocked (opDone v { s with csum := c, key := k }) ↔ Blocked s := .rfl

/-! ## The statements -/

/-- Settles O24: the straddling word's bytes by O23, the example by `imageWord_of_add_three_lt`. -/
theorem imgrdReadsOneWord : Obligations.ImgrdReadsOneWord := by
  refine ⟨decodeTriple_of_lt (by decide), fun _ _ => exec_imgrd_of_misaligned, fun _ _ => exec_imgrd_of_aligned,
    fun o => refusedWhileBlocked_of_operation (.imgrd (b := 0)), fun _ _ => imageWord_of_le, ?straddle, ?wholeWord⟩
  case straddle =>
    intro o s k hk hbeyond
    exact (byteOf_imageWord s o hk).trans (imageByte_of_le hbeyond)
  case wholeWord =>
    intro s hlen h0 h1 h2 h3
    have hlast : imageWord s 0x1F8#32 = le32 0xF8#8 0xF9#8 0xFA#8 0xFB#8 := by
      rw [imageWord_of_add_three_lt (by rw [hlen]; decide)]
      exact congr (congr (congr (congrArg le32 h0) h1) h2) h3
    exact ⟨hlast.trans (by decide), imageWord_of_le (by rw [hlen]; exact BitVec.le_refl _)⟩

/-- Settles O25: the corner case is the image word at or beyond IMG_LEN. -/
theorem paywFoldsAdvancesAndMasks : Obligations.PaywFoldsAdvancesAndMasks :=
  ⟨decodeTriple_of_lt (by decide), fun _ _ => exec_payw_of_misaligned, fun _ _ => exec_payw_of_aligned,
    fun o => refusedWhileBlocked_of_operation (.payw (b := 0)), fun _ _ => imageWord_of_le,
    by decide +kernel, by decide,
    by decide⟩

/-- Settles O26: a second SEAL is accepted as the first one was. -/
theorem sealFinalizesAndMasks : Obligations.SealFinalizesAndMasks := by
  refine ⟨decodeTriple_of_lt (by decide), acceptedWith_seal, fun len o => refusedWhileBlocked_of_operation .sealCsum,
    ?twice, by decide, by decide, by decide⟩
  case twice =>
    intro len len' o o' s t u hfree hfirst hsecond
    obtain rfl := (acceptedWith_seal len o).eq_opDone hfree hfirst
    obtain rfl := (acceptedWith_seal len' o').eq_opDone (mt (blocked_opDone_csum_key ..).mp hfree) hsecond
    rfl

end Sys2Proof.Machine
end

section
/-! PROOFS. The start of an upload (45_uploader.md R250 to R252, R254): what its validation answers, and what it leaves
alone. -/

namespace Sys2Proof.Machine

/-! ## The outcomes of the validation (R252) -/

/-- START on a Connected link begins an upload, outside the step 1 of another (R291, R293). -/
theorem stateAction_begins_upload {s : State} (hu : s.ustate = .peerReady) (huph : s.uph ≠ .handshake)
    (hl : s.lstat = .connected) (hstart : s.trig.start = true) : stateAction s = uploadBegin s := by
  rw [stateAction_of_peerReady hu, readyAction, if_neg huph, if_neg (not_not_intro hl), if_pos hstart]

/-- The state in which an image of a good length is checked against the least window: IMGLEN and WINDOW are set (R250,
R251). -/
def withWindow (s : State) : State := { s with imgLen := s.ports.imgLen, window := windowOf s.ports.imgLen }

/-- The validation in R252's order, on a Connected link. -/
theorem uploadBegin_eq {s : State} (hl : s.lstat = .connected) :
    uploadBegin s =
      if s.ports.imgLen &&& 3#32 ≠ 0#32 then rejectImage .malformedImage { s with imgLen := s.ports.imgLen }
      else if s.params.maxImageLen < s.ports.imgLen then
        rejectImage .imageTooLarge { s with imgLen := s.ports.imgLen }
      else if windowOf s.ports.imgLen < s.params.minWindow then rejectImage .windowTooSmall (withWindow s)
      else beginIteration (startHandshake { withWindow s with uph := .handshake }) := by
  have haligned : aligned4 s.ports.imgLen = false ↔ s.ports.imgLen &&& 3#32 ≠ 0#32 := beq_eq_false_iff_ne
  have hvalid : uploadIteration (startHandshake { withWindow s with uph := .handshake })
      = beginIteration (startHandshake { withWindow s with uph := .handshake }) := if_pos hl
  rw [← hvalid, ← if_congr haligned rfl rfl]
  rfl

/-- Whatever the validation answers, it latches IMGLEN and leaves the session, the link and the ports alone; an upload
that it rejects leaves HSST alone and ends the frame action (R250, R252). -/
theorem uploadBegin_frame {s : State} (hl : s.lstat = .connected) :
    let t := uploadBegin s
    t.imgLen = s.ports.imgLen ∧ t.ports = s.ports ∧ t.ustate = s.ustate
      ∧ t.key = s.key ∧ t.csum = s.csum ∧ t.localKey = s.localKey ∧ t.remoteKey = s.remoteKey ∧ t.cursor = s.cursor
      ∧ t.lstat = s.lstat ∧ t.dcnt = s.dcnt
      ∧ (t.uph = .failed → t.hsst = s.hsst ∧ t.seq = .none ∧ t.busy = false ∧ t.atfb = true) := by
  dsimp only
  rw [uploadBegin_eq hl]
  split
  case isTrue => exact ⟨rfl, rfl, rfl, rfl, rfl, rfl, rfl, rfl, rfl, rfl, fun _ => ⟨rfl, rfl, rfl, rfl⟩⟩
  case isFalse =>
    split
    case isTrue => exact ⟨rfl, rfl, rfl, rfl, rfl, rfl, rfl, rfl, rfl, rfl, fun _ => ⟨rfl, rfl, rfl, rfl⟩⟩
    case isFalse =>
      split
      case isTrue => exact ⟨rfl, rfl, rfl, rfl, rfl, rfl, rfl, rfl, rfl, rfl, fun _ => ⟨rfl, rfl, rfl, rfl⟩⟩
      case isFalse => exact ⟨rfl, rfl, rfl, rfl, rfl, rfl, rfl, rfl, rfl, rfl, nofun⟩

/-- Which error the validation raises, if any, and where the upload stands after it (R252). -/
theorem uploadBegin_outcome {s t : State} (hl : s.lstat = .connected) (ht : uploadBegin s = t) :
    if s.ports.imgLen &&& 3#32 ≠ 0#32 then
      t.uph = .failed ∧ t.window = s.window ∧ t.errBits = s.errBits ||| 0x008#10 ∧ t.lastErr = some .malformedImage
    else if s.params.maxImageLen < s.ports.imgLen then
      t.uph = .failed ∧ t.window = s.window ∧ t.errBits = s.errBits ||| 0x020#10 ∧ t.lastErr = some .imageTooLarge
    else t.window = windowOf s.ports.imgLen
      ∧ (if t.window < s.params.minWindow then
          t.uph = .failed ∧ t.errBits = s.errBits ||| 0x010#10 ∧ t.lastErr = some .windowTooSmall
        else t.uph = .handshake ∧ t.hsst = .awaitingBios ∧ t.hsp = false ∧ t.seq = .hsReset ∧ t.busy = s.busy
          ∧ t.errBits = s.errBits ∧ t.lastErr = s.lastErr) := by
  rw [uploadBegin_eq hl] at ht
  split
  case isTrue hmalformed =>
    rw [if_pos hmalformed] at ht
    subst ht
    exact ⟨rfl, rfl, rfl, rfl⟩
  case isFalse haligned =>
    rw [if_neg haligned] at ht
    split
    case isTrue hlarge =>
      rw [if_pos hlarge] at ht
      subst ht
      exact ⟨rfl, rfl, rfl, rfl⟩
    case isFalse hfits =>
      rw [if_neg hfits] at ht
      by_cases hsmall : windowOf s.ports.imgLen < s.params.minWindow
      · rw [if_pos hsmall] at ht
        subst ht
        exact ⟨rfl, if_pos hsmall ▸ ⟨rfl, rfl, rfl⟩⟩
      · rw [if_neg hsmall] at ht
        subst ht
        exact ⟨rfl, if_neg hsmall ▸ ⟨rfl, rfl, rfl, rfl, rfl, rfl, rfl⟩⟩

/-- Settles O51: the step after the probe is `uploadBegin`. -/
theorem uploadValidation : Obligations.UploadValidation := by
  refine ⟨rfl, fun s p ps hin hq hu huph hstart hp hl => ?_⟩
  have hstep : step s = .next (uploadBegin (polled p ps s)) :=
    (step_eq_stateAction_polled hin hq hp).trans
      (congrArg _ (stateAction_begins_upload (s := polled p ps s) hu huph hl hstart))
  obtain ⟨himgLen, hports, hustate, hkey, hcsum, hlocal, hremote, hcursor, hlstat, hdcnt, hfailed⟩ :=
    uploadBegin_frame (s := polled p ps s) hl
  exact ⟨_, hstep, himgLen, (congrArg Ports.requests hports :), hustate.trans hu, hkey, hcsum, hlocal, hremote,
    hcursor, hlstat.trans hl, hdcnt, hfailed, uploadBegin_outcome (s := polled p ps s) hl rfl⟩

end Sys2Proof.Machine
end

section
/-! PROOFS. One exchange of an upload's steps 2 to 7 (45_uploader.md R253 to R263): what surrounds it, and what it
leaves alone. -/

namespace Sys2Proof.Machine

/-! ## The registers after an exchange, whatever is answered (R320) -/

section Exchanged

variable (tx : List Byte) (m : Nat) (s : State)

@[simp] theorem exchanged_key : (exchanged tx m s).key = s.key := by simp [exchanged_frame tx m s]
@[simp] theorem exchanged_csum : (exchanged tx m s).csum = s.csum := by simp [exchanged_frame tx m s]
@[simp] theorem exchanged_localKey : (exchanged tx m s).localKey = s.localKey := by simp [exchanged_frame tx m s]
@[simp] theorem exchanged_remoteKey : (exchanged tx m s).remoteKey = s.remoteKey := by simp [exchanged_frame tx m s]
@[simp] theorem exchanged_cursor : (exchanged tx m s).cursor = s.cursor := by simp [exchanged_frame tx m s]
@[simp] theorem exchanged_window : (exchanged tx m s).window = s.window := by simp [exchanged_frame tx m s]
@[simp] theorem exchanged_imgLen : (exchanged tx m s).imgLen = s.imgLen := by simp [exchanged_frame tx m s]
@[simp] theorem exchanged_imgBroken : (exchanged tx m s).imgBroken = s.imgBroken := by simp [exchanged_frame tx m s]
@[simp] theorem exchanged_params : (exchanged tx m s).params = s.params := by simp [exchanged_frame tx m s]
@[simp] theorem exchanged_inputs : (exchanged tx m s).ports.inputs = s.ports.inputs := by
  simp [exchanged_frame tx m s]
@[simp] theorem exchanged_image : (exchanged tx m s).ports.image = s.ports.image := by simp [exchanged_frame tx m s]
@[simp] theorem exchanged_imgLenPort : (exchanged tx m s).ports.imgLen = s.ports.imgLen := by
  simp [exchanged_frame tx m s]
@[simp] theorem exchanged_requests :
    (exchanged tx m s).ports.requests = ⟨tx, m, s.params.xchgTimeout⟩ :: s.ports.requests := by
  simp [exchanged_frame tx m s]

end Exchanged

/-! ## A step of an upload that no timeout aborts -/

/-- What a step of the transfer does after its exchange (R255 to R261). -/
def transferEffect : SeqStep → State → State
  | .remoteKey => afterRemoteKey
  | .localKey => afterLocalKey
  | .header => afterHeader
  | .payload => afterPayload
  | .trailer => afterTrailer
  | .ack => afterAck
  | _ => id

theorem isExchange_of_phaseOf {q : SeqStep} {p : UploadPhase} (h : phaseOf q = some p) : isExchange q := by
  cases q with
  | none => cases h
  | probe => cases h
  | _ => exact ⟨nofun, nofun⟩

/-- Each of the six steps has its effect unless a timeout aborts the upload (R263). -/
theorem resume_of_phaseOf {q : SeqStep} {p : UploadPhase} (h : phaseOf q = some p) (s : State) :
    resume q s = unlessAborted s (transferEffect q) := by
  cases q with
  | remoteKey => rfl
  | localKey => rfl
  | header => rfl
  | payload => rfl
  | trailer => rfl
  | ack => rfl
  | _ => cases h

/-- The payload loop's test enters one of two phases and does nothing else (R259). -/
theorem payloadOrTrailer_enters (s : State) : ∃ p q, payloadOrTrailer s = enterPhase p q s := by
  unfold payloadOrTrailer
  split <;> exact ⟨_, _, rfl⟩

/-- After a header word CURSOR moves on and a phase is entered, which may be the header's again (R258). -/
theorem afterHeader_enters (s : State) :
    ∃ p q, afterHeader s = enterPhase p q { s with cursor := s.cursor + 4#32 } := by
  unfold afterHeader
  dsimp only
  split
  · exact ⟨s.uph, .header, rfl⟩
  · exact payloadOrTrailer_enters _

theorem afterPayload_enters (s : State) :
    ∃ p q, afterPayload s = enterPhase p q { s with cursor := s.cursor + 4#32 } :=
  payloadOrTrailer_enters _

/-- What follows the exchange neither issues a request nor takes a response. -/
theorem transferEffect_ports (q : SeqStep) (s : State) : (transferEffect q s).ports = s.ports := by
  cases q with
  | header => obtain ⟨p, q, h⟩ := afterHeader_enters s; exact (congrArg State.ports h :)
  | payload => obtain ⟨p, q, h⟩ := afterPayload_enters s; exact (congrArg State.ports h :)
  | _ => rfl

/-- What the upload was started with, and the image port: no step of the transfer changes them. -/
structure SameUpload (s t : State) : Prop where
  params : t.params = s.params
  window : t.window = s.window
  imgLen : t.imgLen = s.imgLen
  imgBroken : t.imgBroken = s.imgBroken
  image : t.ports.image = s.ports.image
  imgLenPort : t.ports.imgLen = s.ports.imgLen

theorem SameUpload.trans {s t u : State} (h : SameUpload s t) (k : SameUpload t u) : SameUpload s u where
  params := k.params.trans h.params
  window := k.window.trans h.window
  imgLen := k.imgLen.trans h.imgLen
  imgBroken := k.imgBroken.trans h.imgBroken
  image := k.image.trans h.image
  imgLenPort := k.imgLenPort.trans h.imgLenPort

theorem sameUpload_prepare (s : State) : SameUpload s (prepare s).1 := by
  obtain ⟨k, c, l, d, hprep⟩ := prepare_keysOnly s
  rw [hprep]
  exact ⟨rfl, rfl, rfl, rfl, rfl, rfl⟩

theorem sameUpload_exchanged (tx : List Byte) (m : Nat) (s : State) : SameUpload s (exchanged tx m s) :=
  ⟨exchanged_params .., exchanged_window .., exchanged_imgLen .., exchanged_imgBroken .., exchanged_image ..,
    exchanged_imgLenPort ..⟩

theorem sameUpload_transferEffect (q : SeqStep) (s : State) : SameUpload s (transferEffect q s) := by
  cases q with
  | header =>
    obtain ⟨p, q, h⟩ := afterHeader_enters s
    exact (show transferEffect .header s = _ from h) ▸ ⟨rfl, rfl, rfl, rfl, rfl, rfl⟩
  | payload =>
    obtain ⟨p, q, h⟩ := afterPayload_enters s
    exact (show transferEffect .payload s = _ from h) ▸ ⟨rfl, rfl, rfl, rfl, rfl, rfl⟩
  | _ => exact ⟨rfl, rfl, rfl, rfl, rfl, rfl⟩

/-- The state after a step of the transfer, unless a timeout aborts the upload. -/
def afterTransfer (s : State) : State :=
  transferEffect s.seq (exchanged (prepare s).2 (replyLenOf s.seq) (prepare s).1)

theorem sameUpload_afterTransfer (s : State) : SameUpload s (afterTransfer s) :=
  ((sameUpload_prepare s).trans (sameUpload_exchanged _ _ _)).trans (sameUpload_transferEffect _ _)

/-- A step of the transfer issues one request, the one that it prepared. -/
theorem afterTransfer_requests (s : State) :
    (afterTransfer s).ports.requests =
      ⟨(prepare s).2, replyLenOf s.seq, s.params.xchgTimeout⟩ :: s.ports.requests := by
  simp [afterTransfer, transferEffect_ports, prepare_ports, prepare_params]

/-- Nothing disturbs the next exchanges of an upload, which expect replies of these lengths: no input arrives, no
timeout aborts the upload, and the scripted responses keep the port contract. -/
structure Undisturbed (lens : List Nat) (s : State) : Prop where
  quiet : s.ports.inputs = []
  noAbort : NoAbort lens.length s
  fits : repliesFit lens s.ports.replies = true

/-- NoAbort speaks of the parameters and of the scripted responses only. -/
theorem NoAbort.congr {k : Nat} {s t : State} (h : NoAbort k s) (hparams : t.params = s.params)
    (hreplies : t.ports.replies = s.ports.replies) : NoAbort k t := by
  rwa [NoAbort, hparams, hreplies]

/-- An undisturbed step of the transfer has its effect, and leaves the exchanges after it undisturbed. -/
theorem Undisturbed.transfer {m : Nat} {ms : List Nat} {s : State} {p : UploadPhase} (h : Undisturbed (m :: ms) s)
    (hp : phaseOf s.seq = some p) (hm : replyLenOf s.seq = m) :
    step s = .next (afterTransfer s) ∧ Undisturbed ms (afterTransfer s) := by
  obtain ⟨hquiet, hnoAbort, hfits⟩ := h
  obtain ⟨hfit, hrest⟩ := repliesFit_cons hfits
  obtain ⟨hcontinue, hnoAbort'⟩ := noAbort_exchanged (k := ms.length)
    (hnoAbort.congr (prepare_params s) (congrArg _ (prepare_ports s))) (prepare s).2 (replyLenOf s.seq)
  have hports : (afterTransfer s).ports = (exchanged (prepare s).2 (replyLenOf s.seq) (prepare s).1).ports :=
    transferEffect_ports ..
  refine ⟨?step, ?quiet, ?noAbort, ?fits⟩
  case step =>
    rw [step_of_exchange hquiet (isExchange_of_phaseOf hp) (hm ▸ hfit), resume_of_phaseOf hp, unlessAborted, hcontinue]
    rfl
  case quiet => rw [hports, exchanged_inputs, prepare_ports, hquiet]
  case noAbort => exact hnoAbort'.congr (sameUpload_transferEffect _ _).params (congrArg _ hports)
  case fits => rwa [hports, exchanged_replies, prepare_ports]

/-! ## Each step of the transfer -/

section Steps

variable {s : State}

theorem prepare_of_remoteKey (hq : s.seq = .remoteKey) : prepare s = (s, [0x14#8]) := by rw [prepare, hq]
theorem prepare_of_localKey (hq : s.seq = .localKey) : prepare s = prepareLocalKey s := by rw [prepare, hq]
theorem prepare_of_header (hq : s.seq = .header) : prepare s = prepareHeader s := by rw [prepare, hq]
theorem prepare_of_payload (hq : s.seq = .payload) : prepare s = preparePayload s := by rw [prepare, hq]
theorem prepare_of_trailer (hq : s.seq = .trailer) : prepare s = prepareTrailer s := by rw [prepare, hq]
theorem prepare_of_ack (hq : s.seq = .ack) : prepare s = (s, [0x14#8]) := by rw [prepare, hq]

theorem afterTransfer_of_remoteKey (hq : s.seq = .remoteKey) :
    afterTransfer s = afterRemoteKey (exchanged [0x14#8] 5 s) := by
  rw [afterTransfer, prepare_of_remoteKey hq, hq]; rfl

theorem afterTransfer_of_localKey (hq : s.seq = .localKey) :
    afterTransfer s = afterLocalKey (exchanged (prepareLocalKey s).2 1 (prepareLocalKey s).1) := by
  rw [afterTransfer, prepare_of_localKey hq, hq]; rfl

theorem afterTransfer_of_header (hq : s.seq = .header) :
    afterTransfer s = afterHeader (exchanged (prepareHeader s).2 1 (prepareHeader s).1) := by
  rw [afterTransfer, prepare_of_header hq, hq]; rfl

theorem afterTransfer_of_payload (hq : s.seq = .payload) :
    afterTransfer s = afterPayload (exchanged (preparePayload s).2 1 (preparePayload s).1) := by
  rw [afterTransfer, prepare_of_payload hq, hq]; rfl

theorem afterTransfer_of_trailer (hq : s.seq = .trailer) :
    afterTransfer s = afterTrailer (exchanged (prepareTrailer s).2 1 (prepareTrailer s).1) := by
  rw [afterTransfer, prepare_of_trailer hq, hq]; rfl

theorem afterTransfer_of_ack (hq : s.seq = .ack) : afterTransfer s = afterAck (exchanged [0x14#8] 5 s) := by
  rw [afterTransfer, prepare_of_ack hq, hq]; rfl

/-! ### What precedes the exchange, if the image did not change (R256, R258 to R260) -/

theorem prepareLocalKey_intact (hb : s.imgBroken = false) :
    prepareLocalKey s = ({ s with localKey := deriveLocalKey s.params s.window },
      localKeyFrame (deriveLocalKey s.params s.window)) := by
  simp [prepareLocalKey, hb]

theorem prepareHeader_intact (hb : s.imgBroken = false) : prepareHeader s = (s, headerFrame s s.cursor) := by
  simp [prepareHeader, hb]

theorem preparePayload_intact (hb : s.imgBroken = false) :
    preparePayload s = ({ s with csum := fold s.params s.csum (imageWord s s.cursor), key := adv s.params s.key },
      writeFrame (imageWord s s.cursor ^^^ cipherMask s.params (adv s.params s.key) s.cursor)) := by
  simp [preparePayload, hb]

theorem prepareTrailer_intact (hb : s.imgBroken = false) :
    prepareTrailer s = ({ s with csum := finalize s.csum (checksumLen s), key := adv s.params s.key },
      writeFrame (finalize s.csum (checksumLen s) ^^^ cipherMask s.params (adv s.params s.key) s.window)) := by
  simp [prepareTrailer, hb]

/-! ### What precedes the exchange, whether the image changed or not -/

theorem prepareLocalKey_state (s : State) :
    ∃ d, (prepareLocalKey s).1 = { s with localKey := deriveLocalKey s.params s.window, draws := d } := by
  unfold prepareLocalKey
  dsimp only
  split <;> exact ⟨_, rfl⟩

theorem prepareHeader_state (s : State) : ∃ d, (prepareHeader s).1 = { s with draws := d } := by
  unfold prepareHeader
  split <;> exact ⟨_, rfl⟩

theorem preparePayload_state (s : State) :
    ∃ c d, (preparePayload s).1 = { s with csum := c, key := adv s.params s.key, draws := d } := by
  unfold preparePayload
  split <;> exact ⟨_, _, rfl⟩

theorem prepareTrailer_state (s : State) :
    ∃ c d, (prepareTrailer s).1 = { s with csum := c, key := adv s.params s.key, draws := d } := by
  unfold prepareTrailer
  split <;> exact ⟨_, _, rfl⟩

/-! ### The state after the step -/

/-- The key that the session of the upload starts with (R257). -/
def sessionSeed (s : State) : Word := seedKey s.params s.localKey s.remoteKey

/-- REMOTEKEY is decoded from the receive buffer as the Read left it (R255). -/
theorem afterTransfer_remoteKey (hq : s.seq = .remoteKey) :
    let t := afterTransfer s
    t.remoteKey = decodeRemoteKey s.params (rxWord t) ∧ t.key = s.key ∧ t.csum = s.csum ∧ t.seq = .localKey := by
  rw [afterTransfer_of_remoteKey hq]
  simp [afterRemoteKey, rxWord]

/-- The session starts with the key of the local key sent and of the remote key received (R256, R257). -/
theorem afterTransfer_localKey (hq : s.seq = .localKey) :
    let t := afterTransfer s
    t.localKey = deriveLocalKey s.params s.window ∧ t.remoteKey = s.remoteKey ∧ t.key = sessionSeed t
      ∧ t.csum = s.params.csumSeed ∧ t.cursor = 0#32 ∧ t.seq = .header ∧ t.uph = .header := by
  obtain ⟨d, hprep⟩ := prepareLocalKey_state s
  rw [afterTransfer_of_localKey hq, hprep]
  simp [afterLocalKey, sessionSeed]

/-- A header word leaves the session alone but for CURSOR (R258). -/
theorem afterTransfer_header (hq : s.seq = .header) :
    let t := afterTransfer s
    t.cursor = s.cursor + 4#32 ∧ t.key = s.key ∧ t.csum = s.csum ∧ sessionSeed t = sessionSeed s := by
  obtain ⟨p, q, hafter⟩ := afterHeader_enters (exchanged (prepareHeader s).2 1 (prepareHeader s).1)
  obtain ⟨d, hprep⟩ := prepareHeader_state s
  rw [afterTransfer_of_header hq, hafter, hprep]
  simp [sessionSeed]

theorem afterTransfer_header_continues (hq : s.seq = .header) (h : s.cursor + 4#32 < s.params.headerLen) :
    (afterTransfer s).seq = .header := by
  obtain ⟨d, hprep⟩ := prepareHeader_state s
  rw [afterTransfer_of_header hq, hprep]
  simp [afterHeader, h]

/-- After the last header word the payload is next, where the window reaches beyond the header (R258, R259). -/
theorem afterTransfer_header_ends (hq : s.seq = .header) (h : s.cursor + 4#32 = s.params.headerLen)
    (hw : s.params.headerLen < s.window) : (afterTransfer s).seq = .payload ∧ (afterTransfer s).uph = .payload := by
  obtain ⟨d, hprep⟩ := prepareHeader_state s
  rw [afterTransfer_of_header hq, hprep]
  simp [afterHeader, payloadOrTrailer, h, hw]

/-- A payload word advances the key, whether the image changed or not (R259; log 8). -/
theorem afterTransfer_payload (hq : s.seq = .payload) :
    let t := afterTransfer s
    t.cursor = s.cursor + 4#32 ∧ t.key = adv s.params s.key ∧ sessionSeed t = sessionSeed s := by
  obtain ⟨p, q, hafter⟩ := afterPayload_enters (exchanged (preparePayload s).2 1 (preparePayload s).1)
  obtain ⟨c, d, hprep⟩ := preparePayload_state s
  rw [afterTransfer_of_payload hq, hafter, hprep]
  simp [sessionSeed]

/-- The plaintext word is folded (R135, R259). -/
theorem afterTransfer_payload_csum (hq : s.seq = .payload) (hb : s.imgBroken = false) :
    (afterTransfer s).csum = fold s.params s.csum (imageWord s s.cursor) := by
  obtain ⟨p, q, hafter⟩ := afterPayload_enters (exchanged (preparePayload s).2 1 (preparePayload s).1)
  rw [afterTransfer_of_payload hq, hafter, preparePayload_intact hb]
  simp

theorem afterTransfer_payload_continues (hq : s.seq = .payload) (h : s.cursor + 4#32 < s.window) :
    (afterTransfer s).seq = .payload := by
  obtain ⟨c, d, hprep⟩ := preparePayload_state s
  rw [afterTransfer_of_payload hq, hprep]
  simp [afterPayload, payloadOrTrailer, h]

theorem afterTransfer_payload_ends (hq : s.seq = .payload) (h : s.cursor + 4#32 = s.window) :
    (afterTransfer s).seq = .trailer ∧ (afterTransfer s).uph = .trailer := by
  obtain ⟨c, d, hprep⟩ := preparePayload_state s
  rw [afterTransfer_of_payload hq, hprep]
  simp [afterPayload, payloadOrTrailer, h]

/-- The trailer advances the key once more (R260). -/
theorem afterTransfer_trailer (hq : s.seq = .trailer) :
    let t := afterTransfer s
    t.cursor = s.cursor ∧ t.key = adv s.params s.key ∧ sessionSeed t = sessionSeed s ∧ t.seq = .ack ∧ t.uph = .ack := by
  obtain ⟨c, d, hprep⟩ := prepareTrailer_state s
  rw [afterTransfer_of_trailer hq, hprep]
  simp [afterTrailer, sessionSeed]

/-- The length is ORed into the checksum (R136, R260). -/
theorem afterTransfer_trailer_csum (hq : s.seq = .trailer) (hb : s.imgBroken = false) :
    (afterTransfer s).csum = finalize s.csum (checksumLen s) := by
  rw [afterTransfer_of_trailer hq, prepareTrailer_intact hb]
  simp [afterTrailer]

/-- The acknowledgement ends the upload and the frame action, whatever was received (R261). -/
theorem afterTransfer_ack (hq : s.seq = .ack) :
    let t := afterTransfer s
    t.cursor = s.cursor ∧ t.key = s.key ∧ t.csum = s.csum ∧ sessionSeed t = sessionSeed s ∧ t.ack = rxWord t
      ∧ t.uph = .done ∧ t.ustate = .idle ∧ t.seq = .none ∧ t.busy = false ∧ t.atfb = true := by
  rw [afterTransfer_of_ack hq]
  simp [afterAck, sessionSeed, rxWord]

end Steps

end Sys2Proof.Machine
end

section
/-! PROOFS. The exchanges of an upload one by one (45_uploader.md R255 to R257, R260, R261, R263): the key exchange, the
trailer with the acknowledgement, and a timeout that aborts. -/

namespace Sys2Proof.Machine

/-! ## An aborting timeout (R263, R351) -/

/-- A timed-out exchange of the transfer, with ABORT_ON_TIMEOUT set, ends the upload. -/
theorem step_of_abort {s : State} {p : UploadPhase} {z : BitVec 5} {rest : List Reply} (hin : s.ports.inputs = [])
    (hp : phaseOf s.seq = some p) (habort : s.params.abortOnTimeout = true)
    (hr : s.ports.replies = .timeout z :: rest) :
    step s = .next (failTransfer (exchanged (prepare s).2 (replyLenOf s.seq) (prepare s).1)) := by
  have hr' : (prepare s).1.ports.replies = .timeout z :: rest := by rw [prepare_ports, hr]
  have hfails : transferAborts (exchanged (prepare s).2 (replyLenOf s.seq) (prepare s).1) = true := by
    rw [transferAborts, exchanged_params, prepare_params, habort, exchanged_of_timeout hr']
    rfl
  rw [step_of_exchange hin (isExchange_of_phaseOf hp) (replyFits_of_timeout hr), resume_of_phaseOf hp, unlessAborted,
    if_pos hfails]

/-- Settles O58: the timeout's bit is recorded before the failure's. -/
theorem timeoutAbortsTheTransfer : Obligations.TimeoutAbortsTheTransfer := by
  intro s z rest hin hq habort hr
  have hphase : ∃ p, phaseOf s.seq = some p := by
    rcases hq with hq | hq | hq | hq | hq | hq <;> exact ⟨_, congrArg phaseOf hq⟩
  obtain ⟨p, hp⟩ := hphase
  obtain ⟨k, c, l, d, hprep⟩ := prepare_keysOnly s
  refine ⟨_, step_of_abort hin hp habort hr, ?_⟩
  rw [exchanged_of_timeout (s := (prepare s).1) (by rw [prepare_ports, hr]), hprep]
  exact ⟨rfl, rfl, BitVec.or_assoc .., rfl, rfl, rfl, rfl, rfl, rfl, rfl⟩

/-! ## The key exchange (R255 to R257) -/

/-- Settles O52: two undisturbed steps; the second leaves the remote key of the first. -/
theorem keyExchangeOfAnUpload : Obligations.KeyExchangeOfAnUpload := by
  refine ⟨rfl, fun s hin hq hb hno hfit => ?_⟩
  have hs : Undisturbed [5, 1] s := ⟨hin, hno, hfit⟩
  obtain ⟨hstep, ht⟩ := hs.transfer (congrArg phaseOf hq) (congrArg replyLenOf hq)
  obtain ⟨hremote, hkey, hcsum, hqt⟩ := afterTransfer_remoteKey hq
  have hsent := afterTransfer_requests s
  rw [prepare_of_remoteKey hq, hq] at hsent
  have hsame := sameUpload_afterTransfer s
  generalize afterTransfer s = t at *
  obtain ⟨hstep', -⟩ := ht.transfer (congrArg phaseOf hqt) (congrArg replyLenOf hqt)
  obtain ⟨hlocal, hremote', hseed, hcsum', hcursor, hseq, huph⟩ := afterTransfer_localKey hqt
  have hsent' := afterTransfer_requests t
  rw [prepare_of_localKey hqt, prepareLocalKey_intact (hsame.imgBroken.trans hb), hqt, ← hlocal, hsame.params] at hsent'
  rw [sessionSeed, (sameUpload_afterTransfer t).params, hsame.params] at hseed
  rw [hsame.params, hsame.window] at hlocal
  exact ⟨t, afterTransfer t, hstep, hstep', hremote, hsent, hkey, hcsum, hremote', hlocal, hsent', hseed,
    hcsum'.trans (congrArg _ hsame.params), hcursor, huph, hseq⟩

/-! ## The trailer and the acknowledgement (R260, R261) -/

/-- Settles O55: two undisturbed steps; the Read leaves the checksum and the key that the trailer sent. -/
theorem trailerAndAcknowledgement : Obligations.TrailerAndAcknowledgement := by
  refine ⟨rfl, rfl, fun s hin hq hb hno hfit => ?_⟩
  have hs : Undisturbed [1, 5] s := ⟨hin, hno, hfit⟩
  obtain ⟨hstep, ht⟩ := hs.transfer (congrArg phaseOf hq) (congrArg replyLenOf hq)
  obtain ⟨hcursor, hkey, -, hqt, huph⟩ := afterTransfer_trailer hq
  have hcsum := afterTransfer_trailer_csum hq hb
  have hsent := afterTransfer_requests s
  rw [prepare_of_trailer hq, prepareTrailer_intact hb, hq, adv_eq] at hsent
  rw [adv_eq] at hkey
  have hparams := (sameUpload_afterTransfer s).params
  generalize afterTransfer s = t at *
  obtain ⟨hstep', -⟩ := ht.transfer (congrArg phaseOf hqt) (congrArg replyLenOf hqt)
  obtain ⟨-, hkey', hcsum', -, hack, huph', hustate, hseq, hbusy, hatfb⟩ := afterTransfer_ack hqt
  have hsent' := afterTransfer_requests t
  rw [prepare_of_ack hqt, hqt, hparams] at hsent'
  exact ⟨t, afterTransfer t, hstep, hstep', hcsum, hkey, hcursor, huph, hqt, hsent, hcsum'.trans hcsum,
    hkey'.trans hkey, hack, huph', hustate, hsent', hseq, hbusy, hatfb⟩

end Sys2Proof.Machine
end

section
/-! PROOFS. The phases of an upload (45_uploader.md R258 to R262): which requests several steps of the transfer issue,
how many of them are Reads and Writes, and the induction over the words of the header and of the payload. -/

namespace Sys2Proof.Machine

/-! ## Several steps of the transfer -/

/-- A request of R91 that expects one byte is a Write. -/
theorem isWrite_of_wellFormed {q : Request} (h : q.wellFormed = true) (hm : q.replyLen = 1) : isWrite q = true := by
  unfold Request.wellFormed at h
  split at h
  case h_1 => simp [hm] at h
  case h_2 htx => simpa [isWrite, htx, hm] using h
  case h_3 => cases h

/-- A request of R91 that expects five bytes is a Read. -/
theorem isRead_of_wellFormed {q : Request} (h : q.wellFormed = true) (hm : q.replyLen = 5) : isRead q = true := by
  unfold Request.wellFormed at h
  split at h
  case h_1 htx => simpa [isRead, htx, hm] using h
  case h_2 => simp [hm] at h
  case h_3 => cases h

/-- No request is both. -/
theorem isWrite_eq_false_of_isRead {q : Request} (h : isRead q = true) : isWrite q = false := by
  rw [isWrite, eq_of_beq h]
  rfl

/-- Undisturbed steps of the transfer from `s` to `t` issue `sent` in this order, `w` Writes and `r` Reads, and leave
the exchanges that expect `ms` undisturbed. -/
structure Transfers (w r : Nat) (ms : List Nat) (s t : State) (sent : List Request) : Prop where
  run : runSteps (w + r) s = .next t
  same : SameUpload s t
  rest : Undisturbed ms t
  requests : t.ports.requests = sent.reverse ++ s.ports.requests
  writes : (sent.filter isWrite).length = w
  reads : (sent.filter isRead).length = r
  length : sent.length = w + r

theorem Transfers.trans {w r w' r' : Nat} {ms ms' : List Nat} {s t u : State} {sent sent' : List Request}
    (h : Transfers w r ms s t sent) (k : Transfers w' r' ms' t u sent') :
    Transfers (w + w') (r + r') ms' s u (sent ++ sent') where
  run := by
    rw [show w + w' + (r + r') = w + r + (w' + r') by omega, runSteps_add h.run, k.run]
  same := h.same.trans k.same
  rest := k.rest
  requests := by rw [k.requests, h.requests, List.reverse_append, List.append_assoc]
  writes := by rw [List.filter_append, List.length_append, h.writes, k.writes]
  reads := by rw [List.filter_append, List.length_append, h.reads, k.reads]
  length := by
    rw [List.length_append, h.length, k.length]
    omega

section OneStep

variable {ms : List Nat} {s : State} {p : UploadPhase}

/-- A step of the transfer that expects one byte is a Write. -/
theorem Undisturbed.write (h : Undisturbed (1 :: ms) s) (hp : phaseOf s.seq = some p) (hm : replyLenOf s.seq = 1) :
    Transfers 1 0 ms s (afterTransfer s) [⟨(prepare s).2, 1, s.params.xchgTimeout⟩] := by
  obtain ⟨hstep, hrest⟩ := h.transfer hp hm
  have hwrite : isWrite ⟨(prepare s).2, 1, s.params.xchgTimeout⟩ = true :=
    isWrite_of_wellFormed (hm ▸ prepare_request_wellFormed (isExchange_of_phaseOf hp) _) rfl
  have hread : isRead ⟨(prepare s).2, 1, s.params.xchgTimeout⟩ = false :=
    Bool.eq_false_iff.mpr fun hread => nomatch hwrite.symm.trans (isWrite_eq_false_of_isRead hread)
  exact
    { run := (runSteps_succ hstep 0).trans (runSteps_zero _)
      same := sameUpload_afterTransfer s
      rest := hrest
      requests := by rw [afterTransfer_requests, hm]; rfl
      writes := by rw [List.filter_singleton, hwrite]; rfl
      reads := by rw [List.filter_singleton, hread]; rfl
      length := rfl }

/-- A step of the transfer that expects five bytes is a Read. -/
theorem Undisturbed.read (h : Undisturbed (5 :: ms) s) (hp : phaseOf s.seq = some p) (hm : replyLenOf s.seq = 5) :
    Transfers 0 1 ms s (afterTransfer s) [⟨(prepare s).2, 5, s.params.xchgTimeout⟩] := by
  obtain ⟨hstep, hrest⟩ := h.transfer hp hm
  have hread : isRead ⟨(prepare s).2, 5, s.params.xchgTimeout⟩ = true :=
    isRead_of_wellFormed (hm ▸ prepare_request_wellFormed (isExchange_of_phaseOf hp) _) rfl
  exact
    { run := (runSteps_succ hstep 0).trans (runSteps_zero _)
      same := sameUpload_afterTransfer s
      rest := hrest
      requests := by rw [afterTransfer_requests, hm]; rfl
      writes := by rw [List.filter_singleton, isWrite_eq_false_of_isRead hread]; rfl
      reads := by rw [List.filter_singleton, hread]; rfl
      length := rfl }

end OneStep

/-! ## What the transfer reads of the image is fixed by the start of the upload -/

theorem SameUpload.imageByte_eq {s t : State} (h : SameUpload s t) : imageByte t = imageByte s := by
  funext a
  rw [imageByte, imageByte, h.image, h.imgLenPort]

theorem SameUpload.imageWord_eq {s t : State} (h : SameUpload s t) : imageWord t = imageWord s := by
  funext o
  rw [imageWord, imageWord, h.imageByte_eq]

theorem SameUpload.imageWords_eq {s t : State} (h : SameUpload s t) (n : Nat) (o : Word) :
    imageWords t n o = imageWords s n o := by
  induction n generalizing o with
  | zero => rfl
  | succ n ih => rw [imageWords, imageWords, h.imageWord_eq, ih]

theorem SameUpload.payloadRequests_eq {s t : State} (h : SameUpload s t) (n : Nat) (k o : Word) :
    payloadRequests t n k o = payloadRequests s n k o := by
  induction n generalizing k o with
  | zero => rfl
  | succ n ih => rw [payloadRequests, payloadRequests, h.imageWord_eq, h.params, ih]

theorem SameUpload.checksumLen_eq {s t : State} (h : SameUpload s t) : checksumLen t = checksumLen s := by
  rw [checksumLen, checksumLen, h.params, h.imgLen, h.window]

/-! ## The header phase (R258) -/

/-- The Write of the header word at offset `a` (R67, R258). -/
def headerRequest (s : State) (a : Nat) : Request :=
  ⟨[0x15#8, imageByte s a, imageByte s (a + 1), imageByte s (a + 2), imageByte s (a + 3)], 1, s.params.xchgTimeout⟩

theorem SameUpload.headerRequest_eq {s t : State} (h : SameUpload s t) : headerRequest t = headerRequest s := by
  funext a
  rw [headerRequest, headerRequest, h.imageByte_eq, h.params]

/-- The Writes of `n` header words from offset `a` on, in the order they are sent. -/
def headerRequests (s : State) (n a : Nat) : List Request := (List.range n).map fun j => headerRequest s (a + 4 * j)

theorem headerRequests_succ (s : State) (n a : Nat) :
    headerRequests s (n + 1) a = headerRequest s a :: headerRequests s n (a + 4) := by
  rw [headerRequests, headerRequests, List.range_succ_eq_map, List.map_cons, List.map_map]
  congr 1
  refine List.map_congr_left fun j _ => congrArg (headerRequest s) ?_
  show a + 4 * (j + 1) = a + 4 + 4 * j
  omega

theorem SameUpload.headerRequests_eq {s t : State} (h : SameUpload s t) (n a : Nat) :
    headerRequests t n a = headerRequests s n a := by
  rw [headerRequests, headerRequests, h.headerRequest_eq]

/-- CURSOR does not wrap below a bound. -/
theorem toNat_add_four {c b : Word} (h : c.toNat + 4 ≤ b.toNat) : (c + 4#32).toNat = c.toNat + 4 := by
  have hbound := b.isLt
  rw [BitVec.toNat_add, show (4#32).toNat = 4 from rfl]
  omega

/-- From CURSOR `n` words below HEADER_LEN the header phase sends those words, and the payload is next. -/
theorem header_phase {ms : List Nat} {n : Nat} {s : State} (hs : Undisturbed (List.replicate n 1 ++ ms) s)
    (hq : s.seq = .header) (hpos : 0 < n) (hend : s.cursor.toNat + 4 * n = s.params.headerLen.toNat)
    (hw : s.params.headerLen < s.window) :
    ∃ t sent, Transfers n 0 ms s t sent ∧ t.seq = .payload ∧ t.uph = .payload ∧ t.cursor = s.params.headerLen
      ∧ t.key = s.key ∧ t.csum = s.csum ∧ sessionSeed t = sessionSeed s
      ∧ (s.imgBroken = false → sent = headerRequests s n s.cursor.toNat) := by
  induction n generalizing s with
  | zero => exact absurd hpos (Nat.lt_irrefl 0)
  | succ n ih =>
    rw [List.replicate_succ, List.cons_append] at hs
    have hfirst := hs.write (congrArg phaseOf hq) (congrArg replyLenOf hq)
    have hframe (hb : s.imgBroken = false) :
        Request.mk (prepare s).2 1 s.params.xchgTimeout = headerRequest s s.cursor.toNat := by
      rw [prepare_of_header hq, prepareHeader_intact hb]
      rfl
    obtain ⟨hcursor, hkey, hcsum, hseed⟩ := afterTransfer_header hq
    have hnat : (s.cursor + 4#32).toNat = s.cursor.toNat + 4 := toNat_add_four (b := s.params.headerLen) (by omega)
    by_cases hlast : n = 0
    · subst hlast
      have hreached : s.cursor + 4#32 = s.params.headerLen := BitVec.eq_of_toNat_eq (by omega)
      obtain ⟨hseq, huph⟩ := afterTransfer_header_ends hq hreached hw
      exact ⟨_, _, hfirst, hseq, huph, hcursor.trans hreached, hkey, hcsum, hseed,
        fun hb => congrArg (fun q => [q]) (hframe hb)⟩
    · have hmore : s.cursor + 4#32 < s.params.headerLen := BitVec.lt_def.mpr (by omega)
      have hqt := afterTransfer_header_continues hq hmore
      generalize afterTransfer s = t at *
      have hsame := hfirst.same
      obtain ⟨u, sent, hrun, hseq, huph, hcursor', hkey', hcsum', hseed', hsent⟩ :=
        ih hfirst.rest hqt (Nat.pos_of_ne_zero hlast) (by rw [hcursor, hsame.params, hnat]; omega)
          (by rw [hsame.params, hsame.window]; exact hw)
      refine ⟨u, _, Nat.add_comm 1 n ▸ hfirst.trans hrun, hseq, huph, hcursor'.trans (congrArg _ hsame.params),
        hkey'.trans hkey, hcsum'.trans hcsum, hseed'.trans hseed, fun hb => ?_⟩
      rw [hsent (hsame.imgBroken.trans hb), hframe hb, hcursor, hnat, hsame.headerRequests_eq, headerRequests_succ]
      rfl

/-- Settles O53: the header phase from offset 0, with nothing expected after it. -/
theorem headerPhaseSendsTheImageBytes : Obligations.HeaderPhaseSendsTheImageBytes := by
  refine ⟨rfl, rfl, fun s n hin hq hcursor hb hlen hpos hno hw hfit => ?_⟩
  have hs : Undisturbed (List.replicate n 1 ++ []) s := by
    rw [List.append_nil]
    exact ⟨hin, by rwa [List.length_replicate], hfit⟩
  obtain ⟨t, sent, hrun, hseq, huph, hcursor', hkey, hcsum, -, hsent⟩ :=
    header_phase hs hq hpos (by rw [hcursor, hlen]; exact Nat.zero_add _) hw
  refine ⟨t, hrun.run, hseq, huph, hcursor', hkey, hcsum, ?_⟩
  rw [hrun.requests, hsent hb, hcursor, headerRequests]
  simp only [headerRequest, show (0 : Word).toNat = 0 from rfl, Nat.zero_add]

end Sys2Proof.Machine
end

section
/-! PROOFS. The payload and a whole transfer (45_uploader.md R259 to R262, R268): the words that are sent, what a peer
with the same key recovers from them, and the number of exchanges. -/

namespace Sys2Proof.Machine

/-! ## The payload phase (R259) -/

/-- From CURSOR `n` words below WINDOW the payload phase sends those words, and the trailer is next. What is sent and
folded is the image's, unless the image changed; the key is advanced either way. -/
theorem payload_phase {ms : List Nat} {n : Nat} {s : State} (hs : Undisturbed (List.replicate n 1 ++ ms) s)
    (hq : s.seq = .payload) (hpos : 0 < n) (hend : s.cursor.toNat + 4 * n = s.window.toNat) :
    ∃ t sent, Transfers n 0 ms s t sent ∧ t.seq = .trailer ∧ t.uph = .trailer ∧ t.cursor = s.window
      ∧ t.key = advTimes s.params n s.key ∧ sessionSeed t = sessionSeed s
      ∧ (s.imgBroken = false → sent = payloadRequests s n s.key s.cursor
          ∧ t.csum = (imageWords s n s.cursor).foldl (fold s.params) s.csum) := by
  induction n generalizing s with
  | zero => exact absurd hpos (Nat.lt_irrefl 0)
  | succ n ih =>
    rw [List.replicate_succ, List.cons_append] at hs
    have hfirst := hs.write (congrArg phaseOf hq) (congrArg replyLenOf hq)
    have hword (hb : s.imgBroken = false) :
        Request.mk (prepare s).2 1 s.params.xchgTimeout :: payloadRequests s n (adv s.params s.key) (s.cursor + 4#32)
          = payloadRequests s (n + 1) s.key s.cursor := by
      rw [prepare_of_payload hq, preparePayload_intact hb]
      rfl
    have hfold (hb : s.imgBroken = false) := afterTransfer_payload_csum hq hb
    obtain ⟨hcursor, hkey, hseed⟩ := afterTransfer_payload hq
    have hnat : (s.cursor + 4#32).toNat = s.cursor.toNat + 4 := toNat_add_four (b := s.window) (by omega)
    by_cases hlast : n = 0
    · subst hlast
      have hreached : s.cursor + 4#32 = s.window := BitVec.eq_of_toNat_eq (by omega)
      obtain ⟨hseq, huph⟩ := afterTransfer_payload_ends hq hreached
      exact ⟨_, _, hfirst, hseq, huph, hcursor.trans hreached, hkey, hseed, fun hb => ⟨hword hb, hfold hb⟩⟩
    · have hmore : s.cursor + 4#32 < s.window := BitVec.lt_def.mpr (by omega)
      have hqt := afterTransfer_payload_continues hq hmore
      generalize afterTransfer s = t at *
      have hsame := hfirst.same
      obtain ⟨u, sent, hrun, hseq, huph, hcursor', hkey', hseed', hsent⟩ :=
        ih hfirst.rest hqt (Nat.pos_of_ne_zero hlast) (by rw [hcursor, hsame.window, hnat]; omega)
      refine ⟨u, _, Nat.add_comm 1 n ▸ hfirst.trans hrun, hseq, huph, hcursor'.trans hsame.window, ?key,
        hseed'.trans hseed, fun hb => ?_⟩
      case key =>
        rw [hkey', hkey, hsame.params]
        rfl
      obtain ⟨hwords, hcsum⟩ := hsent (hsame.imgBroken.trans hb)
      constructor
      · rw [hwords, hkey, hcursor, hsame.payloadRequests_eq, ← hword hb]
        rfl
      · rw [hcsum, hfold hb, hcursor, hsame.params, hsame.imageWords_eq]
        rfl

/-- Settles O54: the payload phase, with nothing expected after it. -/
theorem payloadPhaseSendsEveryWord : Obligations.PayloadPhaseSendsEveryWord := by
  intro s n hin hq hb hno hpos hend hfit
  have hs : Undisturbed (List.replicate n 1 ++ []) s := by
    rw [List.append_nil]
    exact ⟨hin, by rwa [List.length_replicate], hfit⟩
  obtain ⟨t, sent, hrun, hseq, huph, hcursor, hkey, -, hsent⟩ := payload_phase hs hq hpos hend
  obtain ⟨hwords, hcsum⟩ := hsent hb
  exact ⟨t, hrun.run, hseq, huph, hcursor, hkey, hcsum, hwords ▸ hrun.requests⟩

/-! ## What a peer recovers (R184, R268) -/

/-- The mask is its own inverse: the peer takes off what the uploader put on. -/
theorem peerReads_masked (p : Config.Params) (k o w : Word) (m timeout : Nat) :
    peerReads p k o ⟨writeFrame (w ^^^ cipherMask p k o), m, timeout⟩ = some w := by
  show some (le32 (byteOf 0 _) (byteOf 1 _) (byteOf 2 _) (byteOf 3 _) ^^^ _) = some w
  rw [le32_byteOf, ← cipherMask_eq, xor_xor_self]

/-- From the Writes of the payload the peer recovers the image words, and then reads on with the key advanced once for
each of them, at the offset behind them. -/
theorem peerWords_payloadRequests (s : State) (n : Nat) (k o : Word) (rest : List Request) :
    peerWords s.params k o (payloadRequests s n k o ++ rest) =
      (imageWords s n o).map some ++ peerWords s.params (advTimes s.params n k) (o + BitVec.ofNat 32 (4 * n)) rest := by
  induction n generalizing k o with
  | zero => simp [payloadRequests, imageWords, advTimes]
  | succ n ih =>
    have hoffset : o + 4#32 + BitVec.ofNat 32 (4 * n) = o + BitVec.ofNat 32 (4 * (n + 1)) := by
      rw [BitVec.add_assoc, ← BitVec.ofNat_add, Nat.add_comm 4, Nat.mul_succ]
    rw [payloadRequests, List.cons_append, peerWords, ← adv_eq, peerReads_masked, ih, hoffset]
    rfl

/-- Settles O57: the payload phase, then the trailer's Write at offset WINDOW. -/
theorem peerRecoversThePayload : Obligations.PeerRecoversThePayload := by
  intro s n hin hq hb hno hpos hend hfit
  have hlens : List.replicate (n + 1) 1 = List.replicate n 1 ++ [1] := List.replicate_succ'
  have hs : Undisturbed (List.replicate n 1 ++ [1]) s := by
    rw [← hlens]
    exact ⟨hin, by rwa [List.length_replicate], hfit⟩
  obtain ⟨t, sent, hpayload, hseq, -, hcursor, hkey, -, hsent⟩ := payload_phase hs hq hpos hend
  obtain ⟨hwords, hcsum⟩ := hsent hb
  have hsame := hpayload.same
  have hboth := hpayload.trans (hpayload.rest.write (congrArg phaseOf hseq) (congrArg replyLenOf hseq))
  have hwindow : s.cursor + BitVec.ofNat 32 (4 * n) = s.window := by
    apply BitVec.eq_of_toNat_eq
    have hbound := s.window.isLt
    rw [BitVec.toNat_add, BitVec.toNat_ofNat]
    omega
  refine ⟨afterTransfer t, _, hboth.run, hboth.requests, ?_⟩
  rw [hwords, peerWords_payloadRequests, hwindow, ← hkey, prepare_of_trailer hseq,
    prepareTrailer_intact (hsame.imgBroken.trans hb), peerWords, ← adv_eq, hsame.params, hsame.window,
    peerReads_masked, hcsum, hsame.checksumLen_eq]
  rfl

/-! ## A whole transfer (R262) -/

theorem advTimes_succ (p : Config.Params) (n : Nat) (k : Word) :
    advTimes p (n + 1) k = adv p (advTimes p n k) := by
  induction n generalizing k with
  | zero => rfl
  | succ n ih => exact ih (adv p k)

/-- The key exchange is a Read and a Write, and ends with the session started (R255 to R257). -/
theorem keyExchange_phase {ms : List Nat} {s : State} (hs : Undisturbed (5 :: 1 :: ms) s) (hq : s.seq = .remoteKey) :
    ∃ t sent, Transfers 1 1 ms s t sent ∧ t.seq = .header ∧ t.cursor = 0#32 ∧ t.key = sessionSeed t := by
  have hread := hs.read (congrArg phaseOf hq) (congrArg replyLenOf hq)
  obtain ⟨-, -, -, hqt⟩ := afterTransfer_remoteKey hq
  have hwrite := hread.rest.write (congrArg phaseOf hqt) (congrArg replyLenOf hqt)
  obtain ⟨-, -, hkey, -, hcursor, hseq, -⟩ := afterTransfer_localKey hqt
  exact ⟨_, _, hread.trans hwrite, hseq, hcursor, hkey⟩

/-- The trailer and the acknowledgement are a Write and a Read, and end the upload and its frame action (R260, R261). -/
theorem closing_phase {ms : List Nat} {s : State} (hs : Undisturbed (1 :: 5 :: ms) s) (hq : s.seq = .trailer) :
    ∃ t sent, Transfers 1 1 ms s t sent ∧ t.cursor = s.cursor ∧ t.key = adv s.params s.key
      ∧ sessionSeed t = sessionSeed s ∧ t.uph = .done ∧ t.ustate = .idle ∧ t.seq = .none ∧ t.busy = false := by
  have hwrite := hs.write (congrArg phaseOf hq) (congrArg replyLenOf hq)
  obtain ⟨hcursor, hkey, hseed, hqt, -⟩ := afterTransfer_trailer hq
  have hread := hwrite.rest.read (congrArg phaseOf hqt) (congrArg replyLenOf hqt)
  obtain ⟨hcursor', hkey', -, hseed', -, huph, hustate, hseq, hbusy, -⟩ := afterTransfer_ack hqt
  exact ⟨_, _, hwrite.trans hread, hcursor'.trans hcursor, hkey'.trans hkey, hseed'.trans hseed, huph, hustate, hseq,
    hbusy⟩

/-- The reply lengths of the four phases, one after the other (R253). -/
theorem uploadReplyLens_eq (h n : Nat) :
    uploadReplyLens h n = 5 :: 1 :: (List.replicate h 1 ++ (List.replicate n 1 ++ [1, 5])) := by
  rw [uploadReplyLens, ← List.replicate_append_replicate, List.append_assoc]

theorem uploadReplyLens_length (h n : Nat) : (uploadReplyLens h n).length = 4 + h + n := by
  simp only [uploadReplyLens, List.length_cons, List.length_append, List.length_replicate, List.length_nil]
  omega

/-- Settles O56: the phases one after the other; the seed of the session stays what it was after the key exchange. -/
theorem uploadExchangeCounts : Obligations.UploadExchangeCounts := by
  refine ⟨rfl, fun s h n hin hq hno hh hn hheader hwindow hfit => ?_⟩
  have hs : Undisturbed (uploadReplyLens h n) s := ⟨hin, by rwa [uploadReplyLens_length], hfit⟩
  rw [uploadReplyLens_eq] at hs
  obtain ⟨t, _, hkeys, hqT, hcursorT, hkeyT⟩ := keyExchange_phase hs hq
  obtain ⟨u, _, hwords, hqU, -, hcursorU, hkeyU, -, hseedU, -⟩ :=
    header_phase hkeys.rest hqT hh (by rw [hcursorT, hkeys.same.params, hheader]; exact Nat.zero_add _)
      (by rw [hkeys.same.params, hkeys.same.window, BitVec.lt_def]; omega)
  have hsameU := hkeys.same.trans hwords.same
  obtain ⟨v, _, hpayload, hqV, -, hcursorV, hkeyV, hseedV, -⟩ :=
    payload_phase hwords.rest hqU hn (by rw [hcursorU, hkeys.same.params, hsameU.window]; omega)
  obtain ⟨w, _, hclosing, hcursorW, hkeyW, hseedW, huph, hustate, hseq, hbusy⟩ := closing_phase hpayload.rest hqV
  have hall := ((hkeys.trans hwords).trans hpayload).trans hclosing
  have hkey : w.key = advTimes s.params (n + 1) (sessionSeed w) := by
    rw [hkeyW, hkeyV, hkeyU, hkeyT, hseedW, hseedV, hseedU, advTimes_succ, hpayload.same.params, hsameU.params]
  rw [sessionSeed, hall.same.params] at hkey
  refine ⟨w, _, ?run, hall.requests, ?writes, ?reads, ?length, hkey, huph, hustate,
    (hcursorW.trans hcursorV).trans hsameU.window, hseq, hbusy⟩
  case run => exact (show 1 + h + n + 1 + (1 + 0 + 0 + 1) = 4 + h + n by omega) ▸ hall.run
  case writes => rw [List.filter_reverse, List.length_reverse, hall.writes]; omega
  case reads => rw [List.filter_reverse, List.length_reverse, hall.reads]
  case length => rw [List.length_reverse, hall.length]; omega

end Sys2Proof.Machine
end

section
/-! PROOFS. The steps in which USTATE changes (46_session.md R290): the state action after a probe, the end of a
handshake iteration, the end of an upload, and RESET. -/

namespace Sys2Proof.Machine

/-- What a step of the machine that is not a RESET does to USTATE, where the frame action's next step was `q`. -/
inductive SessionStep (q : SeqStep) (s t : State) : Prop where
  | stays (hustate : t.ustate = s.ustate)
  /-- back to WaitingForPeer, on a link that is then not Connected (R293, R294, R296) -/
  | fallsBack (hq : q = .probe) (hustate : t.ustate = .waitingForPeer) (hlost : t.lstat ≠ .connected)
  /-- READY ends the wait for the peer (R292) -/
  | ready (hq : q = .hsStatus) (hwaiting : s.ustate = .waitingForPeer) (hustate : t.ustate = .peerReady)
    (hready : t.rx.b2 &&& s.params.readyBit ≠ 0#8)
  /-- an acknowledged upload leads to Idle (R293) -/
  | uploaded (hq : q = .ack) (hustate : t.ustate = .idle) (hdone : t.uph = .done)

/-- Of the state before the step only USTATE and the parameters count. -/
theorem SessionStep.congr {q : SeqStep} {s s' t : State} (h : SessionStep q s t) (hustate : s.ustate = s'.ustate)
    (hparams : s.params = s'.params) : SessionStep q s' t := by
  cases h with
  | stays h => exact .stays (h.trans hustate)
  | fallsBack hq h hlost => exact .fallsBack hq h hlost
  | ready hq hwaiting h hready => exact .ready hq (hustate ▸ hwaiting) h (hparams ▸ hready)
  | uploaded hq h hdone => exact .uploaded hq h hdone

/-! ## The state action (R291 to R294) -/

theorem waitingIteration_ustate (s : State) : (waitingIteration s).ustate = s.ustate := by
  unfold waitingIteration
  split <;> rfl

theorem waitingAction_ustate (s : State) : (waitingAction s).ustate = s.ustate := by
  unfold waitingAction
  split
  · exact waitingIteration_ustate s
  · split
    · exact waitingIteration_ustate (startHandshake s)
    · rfl

theorem sessionStep_uploadIteration (s : State) : SessionStep .probe s (uploadIteration s) := by
  unfold uploadIteration
  split
  case isTrue => exact .stays rfl
  case isFalse hlost => exact .fallsBack rfl rfl hlost

theorem sessionStep_readyAction (s : State) : SessionStep .probe s (readyAction s) := by
  unfold readyAction
  split
  case isTrue => exact sessionStep_uploadIteration s
  case isFalse =>
    split
    case isTrue hlost => exact .fallsBack rfl rfl hlost
    case isFalse hlink =>
      split
      · obtain ⟨-, -, hustate, -⟩ := uploadBegin_frame (not_not.mp hlink)
        exact .stays hustate
      · exact .stays rfl

/-- DISC, too, leaves the link not Connected (R294). -/
theorem sessionStep_idleAction (s : State) : SessionStep .probe s (idleAction s) := by
  unfold idleAction
  split
  case isTrue => exact .fallsBack rfl rfl nofun
  case isFalse =>
    split
    case isTrue hlost => exact .fallsBack rfl rfl hlost
    case isFalse => exact .stays rfl

theorem sessionStep_stateAction (s : State) : SessionStep .probe s (stateAction s) := by
  unfold stateAction
  cases s.ustate with
  | waitingForPeer => exact .stays (waitingAction_ustate s)
  | peerReady => exact sessionStep_readyAction s
  | idle => exact sessionStep_idleAction s

/-- The probe touches neither USTATE nor the parameters (R325). -/
theorem probe_session (s : State) : (probe s).2.ustate = s.ustate ∧ (probe s).2.params = s.params := by
  cases hp : s.ports.probes with
  | nil => rw [probe_of_none hp]; exact ⟨rfl, rfl⟩
  | cons p rest => rw [probe_of_scripted hp]; exact ⟨rfl, rfl⟩

@[simp] theorem linkUpdate_ustate (p : Word) (s : State) : (linkUpdate p s).ustate = s.ustate := by
  rw [linkUpdate_self]

theorem sessionStep_probeStep (s : State) : SessionStep .probe s (probeStep s) := by
  obtain ⟨hustate, hparams⟩ := probe_session s
  exact (sessionStep_stateAction _).congr ((linkUpdate_ustate ..).trans hustate) ((linkUpdate_params ..).trans hparams)

/-! ## What follows an exchange -/

theorem unlessAborted_ustate {s : State} {effect : State → State} (h : (effect s).ustate = s.ustate) :
    (unlessAborted s effect).ustate = s.ustate := by
  unfold unlessAborted
  split
  · rfl
  · exact h

theorem afterHeader_ustate (s : State) : (afterHeader s).ustate = s.ustate := by
  obtain ⟨p, q, h⟩ := afterHeader_enters s
  rw [h]
  rfl

theorem afterPayload_ustate (s : State) : (afterPayload s).ustate = s.ustate := by
  obtain ⟨p, q, h⟩ := afterPayload_enters s
  rw [h]
  rfl

theorem afterIdleRead_ustate (s : State) : (afterIdleRead s).ustate = s.ustate := by
  unfold afterIdleRead
  dsimp only
  split <;> rfl

/-- READY in Idle, where no handshake runs, would end the frame action alone. -/
theorem afterStatus_of_ready_idle {s : State} (h : s.rx.b2 &&& s.params.readyBit ≠ 0#8) (hu : s.ustate = .idle) :
    afterStatus s = endFrame { s with hsp := false, hsst := .ready } := by
  refine (if_pos ((peerIsReady_iff s).mpr h)).trans ?_
  simp [hu]

theorem sessionStep_afterStatus (s : State) : SessionStep .hsStatus s (afterStatus s) := by
  by_cases hready : s.rx.b2 &&& s.params.readyBit = 0#8
  · rw [afterStatus_of_not_ready hready]
    exact .stays rfl
  · cases hu : s.ustate with
    | waitingForPeer => rw [afterStatus_of_ready_waiting hready hu]; exact .ready rfl hu rfl hready
    | peerReady => rw [afterStatus_of_ready_upload hready hu]; exact .stays rfl
    | idle => rw [afterStatus_of_ready_idle hready hu]; exact .stays rfl

theorem sessionStep_afterAck (s : State) : SessionStep .ack s (unlessAborted s afterAck) := by
  unfold unlessAborted
  split
  · exact .stays rfl
  · exact .uploaded rfl rfl rfl

theorem sessionStep_resume (q : SeqStep) (s : State) : SessionStep q s (resume q s) := by
  cases q with
  | hsStatus => exact sessionStep_afterStatus s
  | remoteKey => exact .stays (unlessAborted_ustate rfl)
  | localKey => exact .stays (unlessAborted_ustate rfl)
  | header => exact .stays (unlessAborted_ustate (afterHeader_ustate s))
  | payload => exact .stays (unlessAborted_ustate (afterPayload_ustate s))
  | trailer => exact .stays (unlessAborted_ustate rfl)
  | ack => exact sessionStep_afterAck s
  | idleRead => exact .stays (afterIdleRead_ustate s)
  | _ => exact .stays rfl

/-- Neither the exchange nor what precedes it changes USTATE. -/
theorem exchanged_prepare_ustate (tx : List Byte) (m : Nat) (s : State) :
    (exchanged tx m (prepare s).1).ustate = s.ustate := by
  obtain ⟨k, c, l, d, hprep⟩ := prepare_keysOnly s
  simp [exchanged_frame, hprep]

theorem sessionStep_exchange (tx : List Byte) (m : Nat) (s : State) :
    SessionStep s.seq s (resume s.seq (exchanged tx m (prepare s).1)) :=
  (sessionStep_resume _ _).congr (exchanged_prepare_ustate tx m s) ((exchanged_params ..).trans (prepare_params s))

/-! ## Every step -/

theorem OpEffect.ustate {s t : State} (h : OpEffect s t) : t.ustate = s.ustate := by
  cases h with
  | poll _ p => exact linkUpdate_ustate p s
  | _ => rfl

theorem frameTick_ustate (l : Triggers) (s : State) : (frameTick l s).ustate = s.ustate := by
  unfold frameTick
  split <;> rfl

theorem setImageLen_ustate (n : Word) (s : State) : (setImageLen n s).ustate = s.ustate := by
  rw [setImageLen_eq, markImageChange_eq]

theorem setImageByte_ustate (a : Word) (b : Byte) (s : State) : (setImageByte a b s).ustate = s.ustate := by
  rw [setImageByte_eq, markImageChange_eq]

theorem step_sessionStep {s t : State} (h : step s = .next t) (hreset : ∀ rest, s.ports.inputs ≠ .reset :: rest) :
    SessionStep s.seq s t := by
  rcases step_next_cases h with ⟨u, hu, hown⟩ | ⟨o, _, -, hexec⟩ | ⟨l, _, -, rfl⟩ | ⟨rest, hin, -⟩ | ⟨n, _, -, rfl⟩
    | ⟨a, b, _, -, rfl⟩
  · obtain ⟨hustate, hseq, hparams⟩ : u.ustate = s.ustate ∧ u.seq = s.seq ∧ u.params = s.params := by
      rcases hu with ⟨-, rfl⟩ | ⟨-, rfl⟩ <;> exact ⟨rfl, rfl, rfl⟩
    refine hseq ▸ SessionStep.congr ?_ hustate hparams
    rcases hown with ⟨-, rfl⟩ | ⟨hq, rfl⟩ | ⟨-, -, rfl⟩
    · exact .stays rfl
    · exact hq ▸ sessionStep_probeStep u
    · exact sessionStep_exchange _ _ u
  · exact .stays (exec_op_effect (decodeTriple_port o) hexec).ustate
  · exact .stays (frameTick_ustate l _)
  · exact absurd hin (hreset rest)
  · exact .stays (setImageLen_ustate n _)
  · exact .stays (setImageByte_ustate a b _)

/-- Settles O45: a step other than a RESET is a `SessionStep`. That a fall-back starts in PeerReady or in Idle follows
from USTATE having changed; that an upload is acknowledged in PeerReady is the invariant's. -/
theorem sessionTransitionsAreTheTable : Obligations.SessionTransitionsAreTheTable := by
  refine ⟨rfl, fun s t hs h hne => ?_⟩
  by_cases hreset : ∃ rest, s.ports.inputs = .reset :: rest
  · obtain ⟨rest, hin⟩ := hreset
    rw [step_reset_next hin h]
    exact .inr (.inr (.inr (.inr ⟨⟨rest, hin⟩, rfl⟩)))
  · cases step_sessionStep h (not_exists.mp hreset) with
    | stays hstays => exact absurd hstays hne
    | fallsBack hq hwaiting hlost =>
      cases hu : s.ustate with
      | waitingForPeer => exact absurd (hwaiting.trans hu.symm) hne
      | peerReady => exact .inr (.inl ⟨rfl, hwaiting, hq, hlost⟩)
      | idle => exact .inr (.inr (.inr (.inl ⟨rfl, hwaiting, hq, .inr hlost⟩)))
    | ready hq hwaiting hustate hready => exact .inl ⟨hwaiting, hustate, hq, hready⟩
    | uploaded hq hustate hdone =>
      obtain ⟨-, -, -, -, -, -, hcontrol⟩ := (machineInv_iff s).mp hs
      obtain ⟨-, hu, -⟩ := hcontrol.transfer (p := .ack) (congrArg phaseOf hq)
      exact .inr (.inr (.inl ⟨hu, hustate, hq, hdone⟩))

end Sys2Proof.Machine
end

section
/-! PROOFS. The frame action from its tick on, outside uploads (46_session.md R291 to R298): the tick, the fall-back,
the frames in which nothing happens, and Idle. -/

namespace Sys2Proof.Machine

/-! ## The tick (R291, R295) -/

/-- Settles O46: the tick's step is `frameTick` in the state without that input. -/
theorem frameTickStartsOrIsLost : Obligations.FrameTickStartsOrIsLost := by
  intro s l rest hin
  rw [step_of_frame hin, takeInput_of_cons hin]
  rfl

/-! ## The Idle action (R294, R296) -/

theorem stateAction_of_idle {s : State} (h : s.ustate = .idle) : stateAction s = idleAction s := by
  rw [stateAction, h]

theorem idleAction_of_disc {s : State} (h : s.trig.disc = true) :
    idleAction s = endFrame { linkDrop s with ustate := .waitingForPeer } := if_pos h

theorem idleAction_of_lost {s : State} (h : s.trig.disc = false) (hl : s.lstat ≠ .connected) :
    idleAction s = endFrame (fallBack s) := (if_neg (Bool.eq_false_iff.mp h)).trans (if_pos hl)

theorem idleAction_of_connected {s : State} (h : s.trig.disc = false) (hl : s.lstat = .connected) :
    idleAction s = goOn .idleRead s := (if_neg (Bool.eq_false_iff.mp h)).trans (if_neg (not_not_intro hl))

/-- The fall-back in each of its two cases (R296, R343, R344). -/
theorem fallBack_of_noPeer {s : State} (h : s.lstat = .noPeer) :
    fallBack s = { s with ustate := .waitingForPeer, errBits := s.errBits ||| 0x002#10,
                          lastErr := some .peerAbsent } := by
  rw [fallBack, h]
  rfl

theorem fallBack_of_wrongPeerType {s : State} (h : s.lstat = .wrongPeerType) :
    fallBack s = { s with ustate := .waitingForPeer, errBits := s.errBits ||| 0x004#10,
                          lastErr := some .peerWrongType } := by
  rw [fallBack, h]
  rfl

/-- Settles O60: the step after the probe is `idleAction`, in the order of its tests. -/
theorem idleLeavesOnDisconnect : Obligations.IdleLeavesOnDisconnect := by
  intro s p ps hin hq hu hp
  have hstep : step s = .next (idleAction (polled p ps s)) :=
    (step_eq_stateAction_polled hin hq hp).trans (congrArg _ (stateAction_of_idle (s := polled p ps s) hu))
  cases hdisc : s.trig.disc with
  | true =>
    rw [idleAction_of_disc (s := polled p ps s) hdisc] at hstep
    exact ⟨_, hstep, rfl, ⟨rfl, rfl, rfl, rfl, rfl, rfl⟩, rfl, rfl⟩
  | false =>
    cases hl : (linkUpdate p s).lstat with
    | noPeer =>
      rw [idleAction_of_lost (s := polled p ps s) hdisc (hl ▸ nofun),
        fallBack_of_noPeer (s := polled p ps s) hl] at hstep
      exact ⟨_, hstep, rfl, ⟨rfl, rfl, rfl, rfl⟩, rfl, rfl⟩
    | wrongPeerType =>
      rw [idleAction_of_lost (s := polled p ps s) hdisc (hl ▸ nofun),
        fallBack_of_wrongPeerType (s := polled p ps s) hl] at hstep
      exact ⟨_, hstep, rfl, ⟨rfl, rfl, rfl, rfl⟩, rfl, rfl⟩
    | connected =>
      rw [idleAction_of_connected (s := polled p ps s) hdisc hl] at hstep
      exact ⟨_, hstep, rfl, ⟨hu, rfl, rfl⟩, rfl, rfl⟩

/-! ## The exchanges of Idle (R294, R297) -/

theorem step_of_idleRead {s : State} (h : s.ports.inputs = []) (hq : s.seq = .idleRead) (hf : replyFits 5 s = true) :
    step s = .next (afterIdleRead (exchanged [0x14#8] 5 s)) := by
  simpa [prepare, resume, replyLenOf, hq] using step_of_exchange h (hq ▸ ⟨nofun, nofun⟩) (hq ▸ hf)

theorem step_of_idleWrite {s : State} (h : s.ports.inputs = []) (hq : s.seq = .idleWrite) (hf : replyFits 1 s = true) :
    step s = .next (endFrame (exchanged (writeFrame s.usercnt) 1 s)) := by
  simpa [prepare, resume, replyLenOf, hq] using step_of_exchange h (hq ▸ ⟨nofun, nofun⟩) (hq ▸ hf)

theorem hasDataHint_iff (s : State) : hasDataHint s = true ↔ s.rx.b4 &&& s.params.hasDataBit ≠ 0#8 := bne_iff_ne

/-- INC adds one and DEC takes one off, modulo 2^32, so both together leave the counter (R294). -/
theorem countTriggers_eq (l : Triggers) (v : Word) :
    countTriggers l v = v + (if l.inc then 1 else 0) - (if l.dec then 1 else 0) := by
  unfold countTriggers
  cases l.inc <;> cases l.dec <;> simp

/-- The state in which SEND is tested: the hint is taken and the counter has moved (R294). -/
def idleReceived (s : State) : State := { takeHint s with usercnt := countTriggers s.trig s.usercnt }

theorem afterIdleRead_of_send {s : State} (h : s.trig.send = true) :
    afterIdleRead s = goOn .idleWrite (idleReceived s) := if_pos h

theorem afterIdleRead_of_not_send {s : State} (h : s.trig.send = false) :
    afterIdleRead s = endFrame (idleReceived s) := if_neg (Bool.eq_false_iff.mp h)

/-- What the Idle read leaves, whether SEND is set or not. -/
theorem afterIdleRead_frame (s : State) :
    let t := afterIdleRead s
    t.rx = s.rx ∧ t.hasData = hasDataHint s ∧ t.lastrx = (if hasDataHint s then rxWord s else s.lastrx)
      ∧ t.usercnt = countTriggers s.trig s.usercnt ∧ t.params = s.params ∧ t.ports = s.ports := by
  dsimp only
  cases hsend : s.trig.send with
  | true => rw [afterIdleRead_of_send hsend]; exact ⟨rfl, rfl, rfl, rfl, rfl, rfl⟩
  | false => rw [afterIdleRead_of_not_send hsend]; exact ⟨rfl, rfl, rfl, rfl, rfl, rfl⟩

section Exchanged

variable (tx : List Byte) (m : Nat) (s : State)

@[simp] theorem exchanged_hasData : (exchanged tx m s).hasData = s.hasData := by simp [exchanged_frame tx m s]
@[simp] theorem exchanged_usercnt : (exchanged tx m s).usercnt = s.usercnt := by simp [exchanged_frame tx m s]
@[simp] theorem exchanged_lastrx : (exchanged tx m s).lastrx = s.lastrx := by simp [exchanged_frame tx m s]
@[simp] theorem exchanged_trig : (exchanged tx m s).trig = s.trig := by simp [exchanged_frame tx m s]

end Exchanged

/-- The Write on SEND sends the counter, changes none of the three registers of Idle and ends the frame action (R294,
R297). -/
theorem idleWrite_effect {s : State} (h : s.ports.inputs = []) (hq : s.seq = .idleWrite) (hf : replyFits 1 s = true) :
    ∃ t, step s = .next t ∧ t.seq = .none ∧ t.busy = false ∧ t.atfb = true
      ∧ t.usercnt = s.usercnt ∧ t.hasData = s.hasData ∧ t.lastrx = s.lastrx
      ∧ t.ports.requests = ⟨writeFrame s.usercnt, 1, s.params.xchgTimeout⟩ :: s.ports.requests :=
  ⟨_, step_of_idleWrite h hq hf, rfl, rfl, rfl, exchanged_usercnt .., exchanged_hasData .., exchanged_lastrx ..,
    exchanged_requests ..⟩

/-- Settles O59: the read's step is `afterIdleRead`; with SEND the step after it is `idleWrite_effect`. -/
theorem idleReadAndWrite : Obligations.IdleReadAndWrite := by
  refine ⟨rfl, fun s hin hq hfit => ?_⟩
  obtain ⟨hread, -⟩ := repliesFit_cons hfit
  have htrig : (exchanged [0x14#8] 5 s).trig = s.trig := exchanged_trig ..
  obtain ⟨hrx, hdata, hlastrx, husercnt, hparams, hports⟩ := afterIdleRead_frame (exchanged [0x14#8] 5 s)
  rw [exchanged_params] at hparams
  refine ⟨_, step_of_idleRead hin hq hread, ?hasData, ?lastrx, ?counter, ?request, fun hsend => ?ends,
    fun hsend => ?goesOn, fun hsend hfit2 => ?write⟩
  case hasData => rw [hdata, hasDataHint, hrx, exchanged_params]; rfl
  case lastrx =>
    rw [hlastrx, if_congr (hasDataHint_iff _) rfl rfl, hrx, exchanged_params, exchanged_lastrx]
    rfl
  case counter => rw [husercnt, htrig, exchanged_usercnt, countTriggers_eq]
  case request => rw [hports, exchanged_requests]
  case ends => rw [afterIdleRead_of_not_send (htrig ▸ hsend)]; exact ⟨rfl, rfl, rfl⟩
  case goesOn => rw [afterIdleRead_of_send (htrig ▸ hsend)]; rfl
  case write =>
    obtain ⟨-, hrest⟩ := repliesFit_cons hfit2
    obtain ⟨hwrite, -⟩ := repliesFit_cons (s := afterIdleRead (exchanged [0x14#8] 5 s))
      (by rw [hports, exchanged_replies]; exact hrest)
    have hquiet : (afterIdleRead (exchanged [0x14#8] 5 s)).ports.inputs = [] := by rw [hports, exchanged_inputs, hin]
    have hseq : (afterIdleRead (exchanged [0x14#8] 5 s)).seq = .idleWrite := by
      rw [afterIdleRead_of_send (htrig ▸ hsend)]
      rfl
    rw [← hparams]
    exact idleWrite_effect hquiet hseq hwrite

/-! ## Whole frames outside uploads and Idle (R292, R293, R298) -/

/-- The state after a frame in which nothing happens but the poll. -/
def polledFrame (l : Triggers) (p : Word) (ps : List Word) (s : State) : State :=
  { s with lstat := (linkUpdate p s).lstat, dcnt := (linkUpdate p s).dcnt, trig := l, seq := .none, busy := false,
           xpend := false, imgBroken := s.imgBroken && uploadActive s,
           ports := { s.ports with inputs := [], probes := ps, probeCount := s.ports.probeCount + 1 } }

/-- The state after a tick that starts a frame action, if nothing arrives after it. -/
def ticked (l : Triggers) (s : State) : State :=
  { s with atfb := false, busy := true, trig := l, seq := .probe, imgBroken := s.imgBroken && uploadActive s,
           ports := { s.ports with inputs := [] } }

/-- The state in which the frame action of a tick runs its state action: the triggers are sampled, the link is polled
(R291). -/
def tickedAndPolled (l : Triggers) (p : Word) (ps : List Word) (s : State) : State :=
  { polledFrame l p ps s with seq := .probe, busy := true, atfb := false }

/-- The tick does not touch what the link update looks at. -/
theorem polled_ticked (l : Triggers) (p : Word) (ps : List Word) (s : State) :
    polled p ps (ticked l s) = tickedAndPolled l p ps s := by
  rw [polled, linkUpdate_eq p (s := s) (t := ticked l s) rfl rfl rfl]
  rfl

theorem endFrame_tickedAndPolled {s : State} (hatfb : s.atfb = true) (l : Triggers) (p : Word) (ps : List Word) :
    endFrame (tickedAndPolled l p ps s) = polledFrame l p ps s := by
  simp [endFrame, tickedAndPolled, polledFrame, hatfb]

section Frame

variable {s : State} {l : Triggers} {p : Word} {ps : List Word}

/-- The first two steps of a frame action, the tick and the probe (R291). -/
theorem runSteps_two_of_frame (hatfb : s.atfb = true) (hin : s.ports.inputs = [.frame l])
    (hp : s.ports.probes = p :: ps) : runSteps 2 s = .next (stateAction (tickedAndPolled l p ps s)) := by
  have htick : step s = .next (ticked l s) := (frameTickStartsOrIsLost s l [] hin).trans (congrArg _ (if_pos hatfb))
  have hpoll := step_eq_stateAction_polled (s := ticked l s) rfl rfl hp
  rw [polled_ticked] at hpoll
  exact (runSteps_succ htick 1).trans (runSteps_succ hpoll 0)

theorem readyAction_of_lost (huph : s.uph ≠ .handshake) (hl : s.lstat ≠ .connected) :
    readyAction s = endFrame (fallBack s) := (if_neg huph).trans (if_pos hl)

theorem readyAction_of_no_start (huph : s.uph ≠ .handshake) (hl : s.lstat = .connected)
    (hstart : s.trig.start = false) :
    readyAction s = endFrame s :=
  (if_neg huph).trans ((if_neg (not_not_intro hl)).trans (if_neg (Bool.eq_false_iff.mp hstart)))

theorem waitingAction_of_lost (hhsst : s.hsst ≠ .awaitingBios) (hl : s.lstat ≠ .connected) :
    waitingAction s = endFrame s := (if_neg hhsst).trans (if_neg hl)

/-- A frame in PeerReady whose poll leaves the link not Connected falls back, with START or without it (R293, R296). -/
theorem frame_falls_back (hatfb : s.atfb = true) (hin : s.ports.inputs = [.frame l]) (hp : s.ports.probes = p :: ps)
    (hu : s.ustate = .peerReady) (huph : s.uph ≠ .handshake) (hl : (linkUpdate p s).lstat ≠ .connected) :
    runSteps 2 s = .next (fallBack (polledFrame l p ps s)) := by
  have haction : readyAction (tickedAndPolled l p ps s) = endFrame (fallBack (tickedAndPolled l p ps s)) :=
    readyAction_of_lost (s := tickedAndPolled l p ps s) huph hl
  rw [runSteps_two_of_frame hatfb hin hp, stateAction_of_peerReady (s := tickedAndPolled l p ps s) hu, haction,
    ← endFrame_tickedAndPolled hatfb]
  rfl

/-- A frame in PeerReady on a Connected link, without START, only polls (R293). -/
theorem frame_without_start (hatfb : s.atfb = true) (hin : s.ports.inputs = [.frame l]) (hp : s.ports.probes = p :: ps)
    (hu : s.ustate = .peerReady) (huph : s.uph ≠ .handshake) (hl : (linkUpdate p s).lstat = .connected)
    (hstart : l.start = false) : runSteps 2 s = .next (polledFrame l p ps s) := by
  rw [runSteps_two_of_frame hatfb hin hp, stateAction_of_peerReady (s := tickedAndPolled l p ps s) hu,
    readyAction_of_no_start (s := tickedAndPolled l p ps s) huph hl hstart, endFrame_tickedAndPolled hatfb]

/-- A frame in WaitingForPeer with no handshake running only polls while the link is not Connected (R292). -/
theorem frame_without_peer (hatfb : s.atfb = true) (hin : s.ports.inputs = [.frame l]) (hp : s.ports.probes = p :: ps)
    (hu : s.ustate = .waitingForPeer) (hhsst : s.hsst ≠ .awaitingBios) (hl : (linkUpdate p s).lstat ≠ .connected) :
    runSteps 2 s = .next (polledFrame l p ps s) := by
  rw [runSteps_two_of_frame hatfb hin hp, stateAction_of_waiting (s := tickedAndPolled l p ps s) hu,
    waitingAction_of_lost (s := tickedAndPolled l p ps s) hhsst hl, endFrame_tickedAndPolled hatfb]

end Frame

/-- READY is read from the reply of Status, whatever answered the Reset (R202, R203). -/
theorem statusReceived_b2 {s : State} {r : Reply} {d e f : Byte} {rest : List Reply}
    (h : s.ports.replies = r :: .ok [d, e, f] :: rest) : (statusReceived s).rx.b2 = f := by
  have hstatus : (afterReset (exchanged [0xFF#8] 3 s)).ports.replies = .ok [d, e, f] :: rest :=
    (exchanged_replies [0xFF#8] 3 s).trans (congrArg List.tail h)
  rw [statusReceived, exchanged_of_reply hstatus]
  rfl

/-- An iteration of WaitingForPeer with a ready Status reply ends in PeerReady (R202, R203, R292). -/
theorem iteration_finds_peer {s : State} {r : Reply} {d e f : Byte} {rest : List Reply} (hin : s.ports.inputs = [])
    (hq : s.seq = .hsReset) (hu : s.ustate = .waitingForPeer) (hr : s.ports.replies = r :: .ok [d, e, f] :: rest)
    (hfit : r.fits 3 = true) (hready : f &&& s.params.readyBit ≠ 0#8) :
    ∃ t, runSteps 2 s = .next t ∧ t.ustate = .peerReady ∧ t.seq = .none ∧ t.busy = false ∧ t.atfb = true := by
  have hstatus : (Reply.ok [d, e, f]).fits 3 = true := rfl
  have hrun := runSteps_two_of_hsReset hin hq (by simp only [hr, repliesFit, hfit, hstatus, Bool.and_self])
  obtain ⟨-, hustate, -, -, -, -, -, hparams, -, -⟩ := statusReceived_frame s
  rw [afterStatus_of_ready_waiting (by rwa [statusReceived_b2 hr, hparams]) (hustate.trans hu)] at hrun
  exact ⟨_, hrun, rfl, rfl, rfl, rfl⟩

/-- A frame in WaitingForPeer with a Connected-type probe and a ready Status reply ends in PeerReady (R292, R298). -/
theorem frame_finds_peer {s : State} {l : Triggers} {q : Word} {ps : List Word} {r : Reply} {d e f : Byte}
    {rest : List Reply} (hatfb : s.atfb = true) (hin : s.ports.inputs = [.frame l]) (hp : s.ports.probes = q :: ps)
    (hu : s.ustate = .waitingForPeer) (hq : classify s.params q = .connectedType)
    (hr : s.ports.replies = r :: .ok [d, e, f] :: rest) (hfit : r.fits 3 = true)
    (hready : f &&& s.params.readyBit ≠ 0#8) :
    ∃ t, runSteps 4 s = .next t ∧ t.ustate = .peerReady ∧ t.seq = .none ∧ t.busy = false ∧ t.atfb = true := by
  have hl : (linkUpdate q s).lstat = .connected := by rw [linkUpdate_of_connectedType hq]
  have hbegins := stateAction_begins_iteration (s := tickedAndPolled l q ps s) hl (.inl hu)
  have hpolled := (runSteps_two_of_frame hatfb hin hp).trans (congrArg _ hbegins)
  obtain ⟨t, hrun, hend⟩ := iteration_finds_peer (s := beginIteration (startHandshake (tickedAndPolled l q ps s)))
    rfl rfl hu hr hfit hready
  exact ⟨t, (runSteps_add hpolled 2).trans hrun, hend⟩

/-- Settles O47: each clause is one of the frames above; an inconclusive probe that is not the last keeps LSTAT. -/
theorem framePropertiesOfTheSession : Obligations.FramePropertiesOfTheSession := by
  refine ⟨by decide, rfl, fun s l q ps r d e f rest hatfb hu hin hp hq hr hfit hready => ?peer,
    fun s l p ps hatfb hin hp => ⟨fun hu huph hl => ?noPeer, fun hu huph hl => ?wrongPeerType,
      frame_without_start hatfb hin hp, frame_without_peer hatfb hin hp⟩, fun s q hq hl hd => ?debounced⟩
  case peer => exact frame_finds_peer hatfb hin hp hu hq hr hfit hready
  case noPeer =>
    have hfall := fallBack_of_noPeer (s := polledFrame l p ps s) hl
    exact (frame_falls_back hatfb hin hp hu huph (ne_of_eq_of_ne hl nofun)).trans (congrArg _ hfall)
  case wrongPeerType =>
    have hfall := fallBack_of_wrongPeerType (s := polledFrame l p ps s) hl
    exact (frame_falls_back hatfb hin hp hu huph (ne_of_eq_of_ne hl nofun)).trans (congrArg _ hfall)
  case debounced => rwa [linkUpdate_of_inconclusive hq hd]

end Sys2Proof.Machine
end

section
/-! PROOFS. The triggers that a step does not use (46_session.md R295): every part of a frame action commutes with a
change of the latched sample that leaves the triggers it reads alone. -/

namespace Sys2Proof.Machine

/-- The state with another sample of the triggers. -/
def withTrig (l : Triggers) (s : State) : State := { s with trig := l }

section Commutes

variable (l : Triggers) (s : State)

/-! ## The probe and the link update (R227, R291) -/

theorem probe_withTrig : probe (withTrig l s) = ((probe s).1, withTrig l (probe s).2) := by
  cases hp : s.ports.probes with
  | nil => rw [probe_of_none hp, probe_of_none (s := withTrig l s) hp]; rfl
  | cons p rest => rw [probe_of_scripted hp, probe_of_scripted (s := withTrig l s) hp]; rfl

theorem linkUpdate_withTrig (p : Word) : linkUpdate p (withTrig l s) = withTrig l (linkUpdate p s) := by
  rw [linkUpdate_eq p (s := s) (t := withTrig l s) rfl rfl rfl, linkUpdate_self p s]
  rfl

/-! ## The state actions (R292 to R294) -/

theorem waitingIteration_withTrig : waitingIteration (withTrig l s) = withTrig l (waitingIteration s) := by
  rw [waitingIteration, waitingIteration, apply_ite (withTrig l)]
  rfl

theorem waitingAction_withTrig : waitingAction (withTrig l s) = withTrig l (waitingAction s) := by
  rw [waitingAction, waitingAction, apply_ite (withTrig l), apply_ite (withTrig l), ← waitingIteration_withTrig,
    ← waitingIteration_withTrig]
  rfl

theorem uploadIteration_withTrig : uploadIteration (withTrig l s) = withTrig l (uploadIteration s) := by
  rw [uploadIteration, uploadIteration, apply_ite (withTrig l)]
  rfl

theorem uploadBegin_withTrig : uploadBegin (withTrig l s) = withTrig l (uploadBegin s) := by
  simp only [uploadBegin, apply_ite (withTrig l), ← uploadIteration_withTrig]
  rfl

variable {l s}

/-- Of the triggers, PeerReady looks at START, and at none in step 1 of an upload. -/
theorem readyAction_withTrig (h : s.uph = .handshake ∨ l.start = s.trig.start) :
    readyAction (withTrig l s) = withTrig l (readyAction s) := by
  rcases h with huph | hstart
  · rw [readyAction_of_handshake huph, readyAction_of_handshake (s := withTrig l s) huph, uploadIteration_withTrig]
  · rw [readyAction, readyAction, apply_ite (withTrig l), apply_ite (withTrig l), apply_ite (withTrig l),
      ← uploadIteration_withTrig, ← uploadBegin_withTrig, ← hstart]
    rfl

/-- Of the triggers, the Idle action looks at DISC. -/
theorem idleAction_withTrig (h : l.disc = s.trig.disc) : idleAction (withTrig l s) = withTrig l (idleAction s) := by
  rw [idleAction, idleAction, apply_ite (withTrig l), apply_ite (withTrig l), ← h]
  rfl

/-- The sample `l` agrees with the latched one on the triggers that the state action looks at (R295). -/
def AgreesForAction (l : Triggers) (s : State) : Prop :=
  s.ustate = .waitingForPeer ∨ (s.ustate = .peerReady ∧ (s.uph = .handshake ∨ l.start = s.trig.start))
    ∨ (s.ustate = .idle ∧ l.disc = s.trig.disc)

theorem stateAction_withTrig (h : AgreesForAction l s) : stateAction (withTrig l s) = withTrig l (stateAction s) := by
  rcases h with hu | ⟨hu, h⟩ | ⟨hu, h⟩
  · rw [stateAction_of_waiting hu, stateAction_of_waiting (s := withTrig l s) hu, waitingAction_withTrig]
  · rw [stateAction_of_peerReady hu, stateAction_of_peerReady (s := withTrig l s) hu, readyAction_withTrig h]
  · rw [stateAction_of_idle hu, stateAction_of_idle (s := withTrig l s) hu, idleAction_withTrig h]

/-- Neither the probe nor the link update changes what the state action looks at but the link. -/
theorem agreesForAction_linkUpdate_probe (h : AgreesForAction l s) :
    AgreesForAction l (linkUpdate (probe s).1 (probe s).2) := by
  rw [linkUpdate_self]
  cases hp : s.ports.probes with
  | nil => rw [probe_of_none hp]; exact h
  | cons p rest => rw [probe_of_scripted hp]; exact h

theorem probeStep_withTrig (h : AgreesForAction l s) : probeStep (withTrig l s) = withTrig l (probeStep s) := by
  rw [probeStep_eq, probeStep_eq, probe_withTrig, linkUpdate_withTrig]
  exact stateAction_withTrig (agreesForAction_linkUpdate_probe h)

/-! ## The exchanges -/

variable (l s)

/-! What precedes an exchange looks at no trigger (R256, R258 to R260). -/

theorem prepareLocalKey_withTrig : prepareLocalKey (withTrig l s) = Prod.map (withTrig l) id (prepareLocalKey s) := by
  rw [prepareLocalKey, prepareLocalKey, apply_ite (Prod.map (withTrig l) id)]
  rfl

theorem prepareHeader_withTrig : prepareHeader (withTrig l s) = Prod.map (withTrig l) id (prepareHeader s) := by
  rw [prepareHeader, prepareHeader, apply_ite (Prod.map (withTrig l) id)]
  rfl

theorem preparePayload_withTrig : preparePayload (withTrig l s) = Prod.map (withTrig l) id (preparePayload s) := by
  rw [preparePayload, preparePayload, apply_ite (Prod.map (withTrig l) id)]
  rfl

theorem prepareTrailer_withTrig : prepareTrailer (withTrig l s) = Prod.map (withTrig l) id (prepareTrailer s) := by
  rw [prepareTrailer, prepareTrailer, apply_ite (Prod.map (withTrig l) id)]
  rfl

theorem prepare_withTrig : prepare (withTrig l s) = Prod.map (withTrig l) id (prepare s) := by
  have hseq : (withTrig l s).seq = s.seq := rfl
  unfold prepare
  rw [hseq]
  cases s.seq with
  | localKey => exact prepareLocalKey_withTrig l s
  | header => exact prepareHeader_withTrig l s
  | payload => exact preparePayload_withTrig l s
  | trailer => exact prepareTrailer_withTrig l s
  | _ => rfl

theorem prepare_trig : (prepare s).1.trig = s.trig := by
  obtain ⟨k, c, d, n, hprep⟩ := prepare_keysOnly s
  rw [hprep]

theorem exchanged_withTrig (tx : List Byte) (m : Nat) :
    exchanged tx m (withTrig l s) = withTrig l (exchanged tx m s) := by
  cases hr : s.ports.replies with
  | nil =>
    rw [exchanged_of_none hr, exchanged_of_none (s := withTrig l s) hr]
    show takeResponse m (freeReply s.draws m) _ = _
    cases freeReply s.draws m <;> rfl
  | cons r rest =>
    cases r with
    | ok bs => rw [exchanged_of_reply hr, exchanged_of_reply (s := withTrig l s) hr]; rfl
    | timeout z => rw [exchanged_of_timeout hr, exchanged_of_timeout (s := withTrig l s) hr]; rfl

theorem unlessAborted_withTrig {effect : State → State} (h : effect (withTrig l s) = withTrig l (effect s)) :
    unlessAborted (withTrig l s) effect = withTrig l (unlessAborted s effect) := by
  rw [unlessAborted, unlessAborted, apply_ite (withTrig l), h]
  rfl

theorem payloadOrTrailer_withTrig : payloadOrTrailer (withTrig l s) = withTrig l (payloadOrTrailer s) := by
  rw [payloadOrTrailer, payloadOrTrailer, apply_ite (withTrig l)]
  rfl

theorem afterHeader_withTrig : afterHeader (withTrig l s) = withTrig l (afterHeader s) := by
  simp only [afterHeader, apply_ite (withTrig l), ← payloadOrTrailer_withTrig]
  rfl

theorem afterPayload_withTrig : afterPayload (withTrig l s) = withTrig l (afterPayload s) := by
  rw [afterPayload, afterPayload, ← payloadOrTrailer_withTrig]
  rfl

theorem afterStatus_withTrig : afterStatus (withTrig l s) = withTrig l (afterStatus s) := by
  by_cases hready : s.rx.b2 &&& s.params.readyBit = 0#8
  · rw [afterStatus_of_not_ready hready, afterStatus_of_not_ready (s := withTrig l s) hready]
    rfl
  · cases hu : s.ustate with
    | waitingForPeer =>
      rw [afterStatus_of_ready_waiting hready hu, afterStatus_of_ready_waiting (s := withTrig l s) hready hu]; rfl
    | peerReady =>
      rw [afterStatus_of_ready_upload hready hu, afterStatus_of_ready_upload (s := withTrig l s) hready hu]; rfl
    | idle => rw [afterStatus_of_ready_idle hready hu, afterStatus_of_ready_idle (s := withTrig l s) hready hu]; rfl

variable {l s}

/-- The Idle read uses INC, DEC and SEND (R294). -/
theorem afterIdleRead_withTrig (hinc : l.inc = s.trig.inc) (hdec : l.dec = s.trig.dec) (hsend : l.send = s.trig.send) :
    afterIdleRead (withTrig l s) = withTrig l (afterIdleRead s) := by
  have hcount : countTriggers l s.usercnt = countTriggers s.trig s.usercnt := by
    rw [countTriggers_eq, countTriggers_eq, hinc, hdec]
  have hreceived : idleReceived (withTrig l s) = withTrig l (idleReceived s) :=
    congrArg (fun c => withTrig l { takeHint s with usercnt := c }) hcount
  cases hs : s.trig.send with
  | true => rw [afterIdleRead_of_send hs, afterIdleRead_of_send (s := withTrig l s) (hsend.trans hs), hreceived]; rfl
  | false =>
    rw [afterIdleRead_of_not_send hs, afterIdleRead_of_not_send (s := withTrig l s) (hsend.trans hs), hreceived]; rfl

theorem resume_withTrig {q : SeqStep}
    (h : q = .idleRead → l.inc = s.trig.inc ∧ l.dec = s.trig.dec ∧ l.send = s.trig.send) :
    resume q (withTrig l s) = withTrig l (resume q s) := by
  cases q with
  | hsStatus => exact afterStatus_withTrig l s
  | remoteKey => exact unlessAborted_withTrig l s rfl
  | localKey => exact unlessAborted_withTrig l s rfl
  | header => exact unlessAborted_withTrig l s (afterHeader_withTrig l s)
  | payload => exact unlessAborted_withTrig l s (afterPayload_withTrig l s)
  | trailer => exact unlessAborted_withTrig l s rfl
  | ack => exact unlessAborted_withTrig l s rfl
  | idleRead =>
    obtain ⟨hinc, hdec, hsend⟩ := h rfl
    exact afterIdleRead_withTrig hinc hdec hsend
  | _ => rfl

end Commutes

/-- What an exchange's step did if it answered a next state and nothing arrived before it (R7, R291). -/
theorem next_of_step_of_exchange {s t : State} (hin : s.ports.inputs = []) (hx : isExchange s.seq)
    (h : step s = .next t) :
    replyFits (replyLenOf s.seq) s = true
      ∧ t = resume s.seq (exchanged (prepare s).2 (replyLenOf s.seq) (prepare s).1) := by
  rw [step_of_nil hin, advance_of_isExchange hx, exchangeStep_eq hx, replyFits_prepare] at h
  split at h
  case isTrue hfit => exact ⟨hfit, (Host.Outcome.next.inj h).symm⟩
  case isFalse => cases h

theorem step_of_nil_probe {s : State} (hin : s.ports.inputs = []) (hq : s.seq = .probe) :
    step s = .next (probeStep s) := by
  rw [step_of_nil hin, advance_eq, if_neg (hq ▸ nofun), if_pos hq]

/-- Settles O48: the two kinds of step commute with `withTrig`, `probeStep` and the exchange with what surrounds it. -/
theorem unusedTriggersHaveNoEffect : Obligations.UnusedTriggersHaveNoEffect := by
  refine ⟨fun s t l hin hq hstep hunused => ?probe, fun s t l hin hnone hprobe hstep hunused => ?exchange⟩
  case probe =>
    have hagrees : AgreesForAction l s := by
      rcases hunused with hu | hu | ⟨hu, hl⟩
      · exact .inl hu
      · exact .inr (.inl hu)
      · exact .inr (.inr ⟨hu, (congrArg Triggers.disc hl :)⟩)
    obtain rfl := Host.Outcome.next.inj ((step_of_nil_probe hin hq).symm.trans hstep)
    exact (step_of_nil_probe (s := withTrig l s) hin hq).trans (congrArg _ (probeStep_withTrig hagrees))
  case exchange =>
    obtain ⟨hfit, rfl⟩ := next_of_step_of_exchange hin ⟨hnone, hprobe⟩ hstep
    have hexchange := step_of_exchange (s := withTrig l s) hin ⟨hnone, hprobe⟩ hfit
    rw [prepare_withTrig, Prod.map_fst, Prod.map_snd, id_eq, exchanged_withTrig] at hexchange
    refine hexchange.trans (congrArg _ (resume_withTrig fun hq => ?_))
    rw [exchanged_trig, prepare_trig]
    exact hunused hq

end Sys2Proof.Machine
end

section
/-! PROOFS. The two directions of the encoding (30_encoding.md R91, R95, R96, R98, R101): decoding what an instruction
encodes to, and encoding what an assembled triple decodes to. -/

namespace Sys2Proof

/-! ## From a triple to its instruction and back -/

/-- What a well-formed triple's word says of its operands: it is no reserved word, and an operand that its operation
does not use is 0 (R95, R98). -/
theorem OpTriple.wellFormed_iff (w : Byte) (a b : Word) :
    OpTriple.wellFormed ⟨w, a, b⟩ = true ↔
      ¬ ReservedWord w ∧ ((operandsUsed w.toNat).1 = false → a = 0#32)
        ∧ ((operandsUsed w.toNat).2 = false → b = 0#32) := by
  simp [OpTriple.wellFormed, reservedWord_iff, or_iff_not_imp_left, and_assoc]

/-- An operation with its unused operands 0 is encoded as the triple that it came from (R96). -/
theorem Operation.encoding_eq {a b : Word} {w : Byte} {i : Instr} (h : Operation a b w i)
    (ha : (operandsUsed w.toNat).1 = false → a = 0#32) (hb : (operandsUsed w.toNat).2 = false → b = 0#32) :
    i.encoding = .triple ⟨w, a, b⟩ := by
  cases h with
  | csumInit | kseed | kadv | ldrop => rw [ha rfl, hb rfl]; rfl
  | csumFold | csumFinal | kdf | rkey | imgrd | payw | lpoll => rw [hb rfl]; rfl
  | mask | crypt | sealCsum => rfl

end Sys2Proof

namespace Sys2Proof.Machine

/-! ## From an instruction to its bytes and back -/

/-- An instruction whose encoding is a triple that decodes to it comes back from the triple's nine bytes. -/
theorem decode_encode_of_triple {i : Instr} {t : OpTriple} (henc : i.encoding = .triple t) (hdec : decodeTriple t = i) :
    decode i.port (encode i) = .ok i := by
  rw [encode, henc, Encoding.bytes, ← hdec, decodeTriple_port, decode_triple_bytes]

/-- The word put together from a non-zero OPW[7:4] and any code decodes by its OPW[7:4] (R98). -/
theorem decodeTriple_reservedTriple {mbz : BitVec 4} (h : mbz ≠ 0#4) (opc : BitVec 4) :
    decodeTriple (reservedTriple mbz opc) = reservedMbz mbz opc := by
  rw [decodeTriple, reservedTriple, mbzOf_append, opcOf_append, if_neg h]

/-! ## The statements -/

/-- Settles O1: an operation's triple decodes by R96's map, a reserved row's by `decodeTriple_reservedTriple`, a wire
command's frame by the laws on frames. -/
theorem decodeOfEncodeIsTheInstruction : Obligations.DecodeOfEncodeIsTheInstruction := by
  intro i
  cases i with
  | nop | csumInit | csumFold | csumFinal | kdf | rkey | kseed | kadv | mask | crypt | imgrd | payw | sealCsum | lpoll
  | ldrop | reservedOpcF => exact decode_encode_of_triple rfl (decodeTriple_of_lt (by decide) ..)
  | wireReset => exact decode_frame_reset
  | wireStatus => exact decode_frame_status
  | wireRead => exact decode_frame_read
  | wireWrite v => exact decode_writeFrame v
  | _ opc => exact decode_encode_of_triple rfl (decodeTriple_reservedTriple (by decide) opc)

/-- Settles O2: a word that is not reserved is NOP's or an operation's, and is encoded as it was. -/
theorem encodeOfDecodeIsTheTriple : Obligations.EncodeOfDecodeIsTheTriple := by
  rintro ⟨w, a, b⟩ hwf
  refine ⟨?_, decodeTriple_port _⟩
  obtain ⟨hres, ha, hb⟩ := (OpTriple.wellFormed_iff w a b).mp hwf
  by_cases hnop : w = 0x00#8
  · subst hnop
    rw [ha rfl, hb rfl]
    rfl
  · exact (operation_decodeTriple (t := ⟨w, a, b⟩) hres hnop).encoding_eq ha hb

end Sys2Proof.Machine
end

section
/-! PROOFS. What a wire command does to the state, and how a step can end (47_link_commands.md R320, R326, R327;
93_implementation_defined.md items 17 and 19). -/

namespace Sys2Proof.Machine

/-! ## The receive buffer (R37, R320) -/

/-- A reply of the expected length fills the buffer with its bytes, and where it ends the old bytes stay. -/
theorem fill_reply (bs : List Byte) (r : RxBuf) :
    (r.fill bs.length fun i old => bs.getD i old) =
      ⟨bs.getD 0 r.b0, bs.getD 1 r.b1, bs.getD 2 r.b2, bs.getD 3 r.b3, bs.getD 4 r.b4⟩ := by
  have filled (k : Nat) (old : Byte) : (if k < bs.length then bs.getD k old else old) = bs.getD k old :=
    ite_eq_left_iff.mpr fun hk => (List.getD_eq_default _ _ (Nat.le_of_not_lt hk)).symm
  simp only [RxBuf.fill, filled]

/-- The bytes beyond the reply length of a one-byte and of a three-byte reply keep their values. -/
theorem fill_beyond (m : Nat) (f : Nat → Byte → Byte) (r : RxBuf) :
    (m ≤ 1 → (r.fill m f).b1 = r.b1 ∧ (r.fill m f).b2 = r.b2)
      ∧ (m ≤ 3 → (r.fill m f).b3 = r.b3 ∧ (r.fill m f).b4 = r.b4) :=
  ⟨fun h => ⟨if_neg (by omega), if_neg (by omega)⟩, fun h => ⟨if_neg (by omega), if_neg (by omega)⟩⟩

/-- RXFILL leaves each byte 0x00 or as it was. -/
theorem fill_rxFill (m : Nat) (z : BitVec 5) (r : RxBuf) :
    let t := r.fill m (rxFill z)
    (t.b0 = 0 ∨ t.b0 = r.b0) ∧ (t.b1 = 0 ∨ t.b1 = r.b1) ∧ (t.b2 = 0 ∨ t.b2 = r.b2) ∧ (t.b3 = 0 ∨ t.b3 = r.b3)
      ∧ (t.b4 = 0 ∨ t.b4 = r.b4) := by
  have filled (i : Nat) (old : Byte) :
      (if i < m then rxFill z i old else old) = 0 ∨ (if i < m then rxFill z i old else old) = old := by
    unfold rxFill
    split
    · exact ite_eq_or_eq ..
    · exact .inr rfl
  exact ⟨filled 0 _, filled 1 _, filled 2 _, filled 3 _, filled 4 _⟩

/-! ## A wire command's request and its replies -/

/-- The request that a wire command's exchange issues, with XCHG_TIMEOUT, is the one that R91 gives it (R320). -/
theorem request_of_requestOf {p : Config.Params} {i : Instr} {r : Request} (h : requestOf p i = some r) :
    (⟨r.tx, r.replyLen, p.xchgTimeout⟩ : Request) = r := by
  cases i with
  | wireReset | wireStatus | wireRead | wireWrite => obtain rfl := Option.some.inj h; rfl
  | _ => cases h

/-- A wire command whose response keeps the port contract completes (R320). -/
theorem exec_of_fits {i : Instr} {r : Request} {s : State} (h : requestOf s.params i = some r)
    (hfit : replyFits r.replyLen s = true) : exec i s = .next (exchanged r.tx r.replyLen s) :=
  (exec_of_requestOf h s).trans (exchange_of_fits hfit)

/-- A scripted reply fits the exchange that expects as many bytes. -/
theorem replyFits_of_reply {m : Nat} {s : State} {bs : List Byte} {rest : List Reply}
    (h : s.ports.replies = .ok bs :: rest) : replyFits m s = true ↔ bs.length = m := by
  rw [replyFits, h]
  exact beq_iff_eq

theorem replyFits_of_none {m : Nat} {s : State} (h : s.ports.replies = []) : replyFits m s = true := by
  rw [replyFits, h]

/-- Only a scripted reply of another length breaks the port contract (R320, R326). -/
theorem replyFits_eq_false_iff (m : Nat) (s : State) :
    replyFits m s = false ↔ ∃ bs rest, s.ports.replies = .ok bs :: rest ∧ bs.length ≠ m := by
  constructor
  · intro h
    exact (exchange_fault (tx := []) (s := s) (if_neg (Bool.eq_false_iff.mp h))).2
  · rintro ⟨bs, rest, hr, hlen⟩
    exact Bool.eq_false_iff.mpr (mt (replyFits_of_reply hr).mp hlen)

/-- Settles O36: the exchange of the command's request, with what its bytes and what RXFILL make of the buffer. -/
theorem wireCommandsExchange : Obligations.WireCommandsExchange := by
  intro i r s rest hreq
  refine ⟨fun bs hr hlen => ?ok, fun z hr => ?timeout⟩
  case ok =>
    rw [exec_of_fits hreq ((replyFits_of_reply hr).mpr hlen), exchanged_of_reply hr, request_of_requestOf hreq, ← hlen,
      fill_reply]
  case timeout =>
    obtain ⟨h0, h1, h2, h3, h4⟩ := fill_rxFill r.replyLen z s.rx
    refine ⟨s.rx.fill r.replyLen (rxFill z), ?_, h0, h1, h2, h3, h4, fill_beyond ..⟩
    rw [exec_of_fits hreq (replyFits_of_timeout hr), exchanged_of_timeout hr, request_of_requestOf hreq]
    rfl

/-- Settles O38: a free response is a reply or a timeout, and the buffer after either is a fill. -/
theorem unscriptedWireCommandsComplete : Obligations.UnscriptedWireCommandsComplete := by
  intro i r s hreq hnone
  refine ⟨_, exec_of_fits hreq (replyFits_of_none hnone), ?_⟩
  rw [exchanged_of_none hnone, issueRequest, request_of_requestOf hreq]
  cases freeReply s.draws r.replyLen with
  | ok bs =>
    obtain ⟨hone, hthree⟩ := fill_beyond r.replyLen (fun i old => bs.getD i old) s.rx
    exact ⟨rfl, rfl, rfl, rfl, rfl, hone, hthree, .inl ⟨rfl, rfl, rfl, rfl⟩⟩
  | timeout z =>
    obtain ⟨hone, hthree⟩ := fill_beyond r.replyLen (rxFill z) s.rx
    exact ⟨rfl, rfl, rfl, rfl, rfl, hone, hthree, .inr ⟨rfl, rfl, rfl, rfl, fill_rxFill ..⟩⟩

/-! ## How a step can end -/

/-- An operation that is presented completes, whatever it is (R96, R98). -/
theorem completes_exec_decodeTriple (t : OpTriple) (s : State) : completes (exec (decodeTriple t) s) := by
  obtain ⟨u, hu, -⟩ := operationsWriteOnlyTheirRegisters t s
  exact ⟨u, hu⟩

/-- The exchange that is next has a scripted reply of another length than it expects. -/
def ReplyBreaksContract (s : State) : Prop := isExchange s.seq ∧ replyFits (replyLenOf s.seq) s = false

theorem advance_of_breaks {s : State} (h : ReplyBreaksContract s) : advance s = .fault .replyLength := by
  obtain ⟨hx, hfit⟩ := h
  rw [advance_of_isExchange hx, exchangeStep_eq hx, replyFits_prepare, if_neg (Bool.eq_false_iff.mp hfit)]

theorem completes_advance {s : State} (h : ¬ ReplyBreaksContract s) : completes (advance s) := by
  by_cases hx : isExchange s.seq
  · have hfit : replyFits (replyLenOf s.seq) s = true := Bool.of_not_eq_false fun hf => h ⟨hx, hf⟩
    rw [advance_of_isExchange hx, exchangeStep_eq hx, replyFits_prepare, if_pos hfit]
    exact ⟨_, rfl⟩
  · rw [advance_eq]
    split
    · exact ⟨_, rfl⟩
    split
    · exact ⟨_, rfl⟩
    · next hnone hprobe => exact absurd ⟨hnone, hprobe⟩ hx

/-- Where nothing arrives the machine takes its own step, in a state with the same sequencer step and the same script of
responses. -/
theorem step_of_quietInput {s : State} (h : quietInput s) :
    ∃ u, step s = advance u ∧ (ReplyBreaksContract u ↔ ReplyBreaksContract s) := by
  rcases h with hnil | ⟨rest, hquiet⟩
  · exact ⟨s, step_of_nil hnil, .rfl⟩
  · exact ⟨takeInput s, step_of_quiet hquiet, .rfl⟩

theorem step_of_breaks {s : State} (hin : quietInput s) (h : ReplyBreaksContract s) : step s = .fault .replyLength := by
  obtain ⟨u, hstep, hu⟩ := step_of_quietInput hin
  exact hstep.trans (advance_of_breaks (hu.mpr h))

theorem step_of_response {s : State} {a : Reply} {rest : List Input} (h : s.ports.inputs = .response a :: rest) :
    step s = .fault .unsolicitedResponse := by
  simp only [step, h]

/-- A step completes, or it is one of the two faults, each on its broken contract (R320, R385; 93 item 17). -/
theorem step_outcome (s : State) :
    completes (step s)
      ∨ (step s = .fault .unsolicitedResponse ∧ ∃ a rest, s.ports.inputs = .response a :: rest)
      ∨ (step s = .fault .replyLength ∧ quietInput s ∧ ReplyBreaksContract s) := by
  have own (hin : quietInput s) :
      completes (step s) ∨ (step s = .fault .replyLength ∧ quietInput s ∧ ReplyBreaksContract s) := by
    by_cases hbreaks : ReplyBreaksContract s
    · exact .inr ⟨step_of_breaks hin hbreaks, hin, hbreaks⟩
    · obtain ⟨u, hstep, hu⟩ := step_of_quietInput hin
      exact .inl (hstep ▸ completes_advance (mt hu.mp hbreaks))
  cases hi : s.ports.inputs with
  | nil => exact (own (.inl hi)).imp_right .inr
  | cons i rest =>
    cases i with
    | quiet => exact (own (.inr ⟨rest, hi⟩)).imp_right .inr
    | op t => exact .inl (step_of_op hi ▸ completes_exec_decodeTriple t _)
    | frame l => exact .inl ⟨_, step_of_frame hi⟩
    | reset => exact .inl ⟨_, step_of_reset hi⟩
    | imageLen n => exact .inl ⟨setImageLen n (takeInput s), by simp only [step, hi]⟩
    | imageByte a b => exact .inl ⟨setImageByte a b (takeInput s), by simp only [step, hi]⟩
    | response a => exact .inr (.inl ⟨step_of_response hi, a, rest, rfl⟩)

/-- Settles O41: none of a step's outcomes is a refusal. -/
theorem noStepIsRefused : Obligations.NoStepIsRefused := by
  intro s r h
  rcases step_outcome s with ⟨t, ht⟩ | ⟨hf, -⟩ | ⟨hf, -⟩
  · exact nomatch ht.symm.trans h
  · exact nomatch hf.symm.trans h
  · exact nomatch hf.symm.trans h

/-- The reply lengths of the sequencer's exchanges, grouped by their length (R91, R253). -/
theorem replyLenOf_eq {q : SeqStep} (h : isExchange q) :
    replyLenOf q = if q = .hsReset ∨ q = .hsStatus then 3
      else if q = .remoteKey ∨ q = .ack ∨ q = .idleRead then 5 else 1 := by
  cases q with
  | none => exact absurd rfl h.1
  | probe => exact absurd rfl h.2
  | _ => rfl

/-- Settles O42: the exchange's own check, and the two faults of `step_outcome`. -/
theorem faultsAreBrokenTransportContracts : Obligations.FaultsAreBrokenTransportContracts := by
  refine ⟨fun i r s bs rest hreq hr hlen => ?command, fun s r => ⟨fun h => ?fault, fun h => ?contract⟩⟩
  case command =>
    have hfit := (replyFits_eq_false_iff r.replyLen s).mpr ⟨bs, rest, hr, hlen⟩
    exact (exec_of_requestOf hreq s).trans (if_neg (Bool.eq_false_iff.mp hfit))
  case fault =>
    rcases step_outcome s with ⟨t, ht⟩ | ⟨hf, hin⟩ | ⟨hf, hin, hx, hfit⟩
    · exact nomatch ht.symm.trans h
    · exact .inl ⟨(Host.Outcome.fault.inj (hf.symm.trans h)).symm, hin⟩
    · obtain ⟨bs, rest, hr, hlen⟩ := (replyFits_eq_false_iff _ s).mp hfit
      obtain ⟨hnone, hprobe⟩ := hx
      exact .inr ⟨(Host.Outcome.fault.inj (hf.symm.trans h)).symm, hin, hnone, hprobe, bs, rest, hr,
        replyLenOf_eq ⟨hnone, hprobe⟩ ▸ hlen⟩
  case contract =>
    rcases h with ⟨rfl, a, rest, hin⟩ | ⟨rfl, hin, hnone, hprobe, bs, rest, hr, hlen⟩
    · exact step_of_response hin
    · have hx : isExchange s.seq := ⟨hnone, hprobe⟩
      exact step_of_breaks hin
        ⟨hx, (replyFits_eq_false_iff _ s).mpr ⟨bs, rest, hr, (replyLenOf_eq hx).symm ▸ hlen⟩⟩

end Sys2Proof.Machine
end

section
/-! PROOFS. Recording an error (60_exceptions.md R340) and RESET (70_reset_and_hazards.md R380, R381). -/

namespace Sys2Proof.Machine

/-! ## ERR and its read-back (R32, R340) -/

/-- ERR is its sticky bits and LASTERR. -/
theorem errWord_eq (s : State) :
    errWord s = s.errBits.setWidth 32 ||| (lastErrCode s.lastErr).setWidth 32 <<< 16 := by
  apply BitVec.eq_of_getLsbD_eq
  intro i hi
  simp only [errWord, BitVec.getLsbD_append, BitVec.getLsbD_or, BitVec.getLsbD_shiftLeft, BitVec.getLsbD_setWidth,
    BitVec.getLsbD_zero]
  grind

/-- A word's ten low bits. -/
theorem and_low_ten_bits (w : Word) : w &&& 0x3FF#32 = (w.extractLsb' 0 10).setWidth 32 := by
  have hlow : w.toNat &&& 0x3FF = w.toNat % 1024 := Nat.and_two_pow_sub_one_eq_mod w.toNat 10
  apply BitVec.eq_of_toNat_eq
  simp only [BitVec.toNat_and, BitVec.toNat_setWidth, BitVec.extractLsb'_toNat, Nat.shiftRight_zero, BitVec.reduceToNat,
    hlow]
  omega

theorem errWord_and_low_bits (s : State) : errWord s &&& 0x3FF#32 = s.errBits.setWidth 32 := by
  obtain ⟨hbits, -⟩ := errWord_fields s
  rw [and_low_ten_bits, hbits]

/-- The mask of an error, and its code, as words. -/
theorem setWidth_mask (e : ErrCode) : e.mask.setWidth 32 = BitVec.twoPow 32 (e.code - 1) := by cases e <;> rfl

theorem setWidth_lastErrCode (e : ErrCode) : (lastErrCode (some e)).setWidth 32 = BitVec.ofNat 32 e.code := by
  cases e <;> rfl

/-- Settles O30: `raise` as it is defined, and ERR's word before and after it. -/
theorem raiseRecordsAndNothingElse : Obligations.RaiseRecordsAndNothingElse := by
  intro e s
  refine ⟨rfl, ?_⟩
  change errWord (raise e s) = (errWord s &&& 0x3FF#32) ||| _ ||| _
  rw [errWord_and_low_bits, errWord_eq, raise_errBits, raise_lastErr, setWidth_lastErrCode, BitVec.setWidth_or,
    setWidth_mask]

/-! ## RESET (R380, R381) -/

/-- Every register but CSUM reads 0 after reset with the default parameters. -/
theorem readBack_reset : ∀ i : BitVec 5, i ≠ 1 → readBack State.reset i = 0x00000000 := by decide

/-- Of the registers, the parameters, the ports and the draws that a RESET keeps show in CSUM alone. -/
theorem readBack_resetAll (s : State) (i : BitVec 5) :
    readBack (resetAll s) i = if i = 1 then s.params.csumSeed else readBack State.reset i := by
  by_cases hi : 17 ≤ i.toNat
  · have hne : i ≠ 1 := by rintro rfl; exact absurd hi (by decide)
    rw [readBack_unmapped _ hi, if_neg hne, readBack_unmapped _ hi]
  · have hw : i = BitVec.ofNat 5 i.toNat := BitVec.eq_of_toNat_eq (by simp)
    generalize i.toNat = n at hi hw
    subst hw
    interval_cases n <;> rfl

/-- Settles O35: RESET's step is `resetAll` in the state without that input. -/
theorem resetSetsEveryRegister : Obligations.ResetSetsEveryRegister := by
  refine ⟨rfl, fun s rest hin => ⟨_, step_of_reset hin, fun i => ?readBack, ?fields⟩⟩
  case readBack =>
    rw [readBack_resetAll]
    split
    · rfl
    · next hne => exact readBack_reset i hne
  case fields =>
    rw [takeInput_of_cons hin]
    exact ⟨rfl, rfl, rfl, rfl, rfl, rfl, rfl, rfl, rfl, rfl, rfl, rfl, rfl, rfl, rfl, rfl, rfl, rfl⟩

theorem paramsOk_defaults : ParamsOk Config.defaults := by
  unfold ParamsOk
  decide

/-- Settles O43: a started state is its own reset. -/
theorem invariantHoldsAfterReset : Obligations.InvariantHoldsAfterReset := by
  refine ⟨paramsOk_defaults, ?_⟩
  rintro s ⟨params, ports, rfl, hrequests, himage⟩ hparams
  have hnone : RequestsOk (State.resetWith params ports) := fun r hr => nomatch (hrequests ▸ hr : r ∈ [])
  exact machineInv_resetAll hparams hnone himage

end Sys2Proof.Machine
end

section
/-! PROOFS. The image port (10_state.md R42, R60; 70_reset_and_hazards.md R388): only its own inputs change it, and what
each of them marks. -/

namespace Sys2Proof.Machine

/-! ## What leaves the ports alone -/

section Ports

variable (s : State)

theorem waitingIteration_ports : (waitingIteration s).ports = s.ports :=
  (apply_ite State.ports ..).trans (ite_self _)

theorem waitingAction_ports : (waitingAction s).ports = s.ports := by
  rw [waitingAction, apply_ite State.ports, apply_ite State.ports, waitingIteration_ports, waitingIteration_ports]
  exact (congrArg _ (ite_self _)).trans (ite_self _)

theorem uploadIteration_ports : (uploadIteration s).ports = s.ports :=
  (apply_ite State.ports ..).trans (ite_self _)

theorem readyAction_ports : (readyAction s).ports = s.ports := by
  unfold readyAction
  split
  · exact uploadIteration_ports s
  split
  · rfl
  · next hl =>
    split
    · obtain ⟨-, hports, -⟩ := uploadBegin_frame (not_ne_iff.mp hl)
      exact hports
    · rfl

theorem idleAction_ports : (idleAction s).ports = s.ports := by
  unfold idleAction
  split
  · rfl
  · exact (apply_ite State.ports ..).trans (ite_self _)

theorem stateAction_ports : (stateAction s).ports = s.ports := by
  unfold stateAction
  cases s.ustate with
  | waitingForPeer => exact waitingAction_ports s
  | peerReady => exact readyAction_ports s
  | idle => exact idleAction_ports s

theorem linkUpdate_ports (p : Word) : (linkUpdate p s).ports = s.ports := by rw [linkUpdate_self]

theorem frameTick_ports (l : Triggers) : (frameTick l s).ports = s.ports :=
  (apply_ite State.ports ..).trans (ite_self _)

theorem unlessAborted_ports {effect : State → State} (h : (effect s).ports = s.ports) :
    (unlessAborted s effect).ports = s.ports := by
  rw [unlessAborted, apply_ite State.ports, h]
  exact ite_self _

theorem resume_ports (q : SeqStep) : (resume q s).ports = s.ports := by
  have transfer {p : UploadPhase} (h : phaseOf q = some p) : (resume q s).ports = s.ports := by
    rw [resume_of_phaseOf h]
    exact unlessAborted_ports s (transferEffect_ports q s)
  cases q with
  | hsStatus =>
    obtain ⟨-, -, -, hports, -⟩ := afterStatus_frame s
    exact hports
  | idleRead =>
    obtain ⟨-, -, -, -, -, hports⟩ := afterIdleRead_frame s
    exact hports
  | none | probe | hsReset | idleWrite => rfl
  | _ => exact transfer rfl

end Ports

/-! ## What leaves the image alone (R11, R60) -/

/-- What stands at the image port: IMG_LEN and the bytes. -/
def imagePort (s : State) : Word × Memory := (s.ports.imgLen, s.ports.image)

theorem imagePort_of_ports {s t : State} (h : t.ports = s.ports) : imagePort t = imagePort s := by
  rw [imagePort, imagePort, h]

theorem imagePort_probe (s : State) : imagePort (probe s).2 = imagePort s := by
  cases hp : s.ports.probes with
  | nil => rw [probe_of_none hp]; rfl
  | cons p rest => rw [probe_of_scripted hp]; rfl

theorem imagePort_probeStep (s : State) : imagePort (probeStep s) = imagePort s := by
  rw [probeStep_eq, imagePort_of_ports ((stateAction_ports _).trans (linkUpdate_ports ..)), imagePort_probe]

theorem imagePort_exchanged (tx : List Byte) (m : Nat) (s : State) : imagePort (exchanged tx m s) = imagePort s :=
  Prod.ext (exchanged_imgLenPort tx m s) (exchanged_image tx m s)

theorem OpEffect.imagePort_eq {s t : State} (h : OpEffect s t) : imagePort t = imagePort s := by
  cases h with
  | poll _ p => rw [linkUpdate_self]; rfl
  | _ => rfl

/-- A step keeps the image port, unless its input is one of the two that change it. -/
theorem step_imagePort {s t : State} (h : step s = .next t)
    (hbyte : ∀ a b rest, s.ports.inputs ≠ .imageByte a b :: rest)
    (hlen : ∀ n rest, s.ports.inputs ≠ .imageLen n :: rest) :
    imagePort t = imagePort s := by
  rcases step_next_cases h with ⟨u, hu, hown⟩ | ⟨o, _, -, hexec⟩ | ⟨l, _, -, rfl⟩ | ⟨_, -, rfl⟩ | ⟨n, rest, hin, -⟩
    | ⟨a, b, rest, hin, -⟩
  · have input : imagePort u = imagePort s := by rcases hu with ⟨-, rfl⟩ | ⟨-, rfl⟩ <;> rfl
    rcases hown with ⟨-, rfl⟩ | ⟨-, rfl⟩ | ⟨-, -, rfl⟩
    · exact input
    · exact (imagePort_probeStep u).trans input
    · calc imagePort (resume u.seq (exchanged (prepare u).2 (replyLenOf u.seq) (prepare u).1))
          = imagePort (exchanged (prepare u).2 (replyLenOf u.seq) (prepare u).1) := imagePort_of_ports (resume_ports ..)
        _ = imagePort (prepare u).1 := imagePort_exchanged ..
        _ = imagePort u := imagePort_of_ports (prepare_ports u)
        _ = imagePort s := input
  · exact (exec_op_effect (decodeTriple_port o) hexec).imagePort_eq
  · exact imagePort_of_ports (s := takeInput s) (frameTick_ports ..)
  · rfl
  · exact absurd hin (hlen n rest)
  · exact absurd hin (hbyte a b rest)

/-! ## What an image input marks (R388; log 8) -/

theorem step_of_imageLen {s : State} {n : Word} {rest : List Input} (h : s.ports.inputs = .imageLen n :: rest) :
    step s = .next { markImageChange (n != s.ports.imgLen) (takeInput s) with
      ports := { s.ports with inputs := rest, imgLen := n } } := by
  simp only [step, h, setImageLen_eq, takeInput_ports, List.tail_cons]

theorem step_of_imageByte {s : State} {a : Word} {b : Byte} {rest : List Input}
    (h : s.ports.inputs = .imageByte a b :: rest) :
    step s = .next
      { markImageChange (decide (a < s.ports.imgLen) && b != Memory.read s.ports.image a.toNat) (takeInput s) with
        ports := { s.ports with inputs := rest, image := Memory.write s.ports.image a.toNat b } } := by
  simp only [step, h, setImageByte_eq, takeInput_ports, List.tail_cons]

/-- An image byte after a write, in one equation. -/
theorem read_write {m : Memory} (h : Memory.wf m = true) (a x : Nat) (b : Byte) :
    Memory.read (Memory.write m a b) x = if x = a then b else Memory.read m x := by
  split
  · next hx => exact hx ▸ read_write_same m x b 0 h
  · next hx => exact read_write_other m a x b hx

/-- CSUM is the sum under way in the three phases from Payload on (R257, R259, R260). -/
theorem checksumUnderWay_eq_false {s : State} (h : s.uph ∉ [.payload, .trailer, .ack]) :
    checksumUnderWay s = false := by
  unfold checksumUnderWay
  cases hp : s.uph with
  | payload => exact absurd hp fun hp => h (by simp [hp])
  | trailer => exact absurd hp fun hp => h (by simp [hp])
  | ack => exact absurd hp fun hp => h (by simp [hp])
  | _ => rfl

/-- `t` is `s` with a change of the image port marked, if `changed` and in R388's interval; of the registers, the mark
and CSUM with its free draw alone can differ. -/
def Marked (changed : Prop) (s t : State) : Prop :=
  t = { s with imgBroken := t.imgBroken, csum := t.csum, draws := t.draws, ports := t.ports }
    ∧ (ImageHeld s → changed → t.imgBroken = true)
    ∧ (¬ ImageHeld s ∨ ¬ changed → t.imgBroken = s.imgBroken ∧ t.csum = s.csum ∧ t.draws = s.draws)
    ∧ (s.uph ∉ [.payload, .trailer, .ack] → t.csum = s.csum)

/-- `markImageChange` marks, once the input is taken and whatever the port holds afterwards. -/
theorem marked_markImageChange {changed : Prop} {c : Bool} (hc : c = true ↔ changed) (s : State) (ports : Ports) :
    Marked changed s { markImageChange c (takeInput s) with ports := ports } := by
  have hheld : imageHeld (takeInput s) = true ↔ ImageHeld s := imageHeld_eq_true_iff s
  rw [markImageChange_eq]
  refine ⟨rfl, fun hin hchanged => ?_, fun hnot => ?_, fun huph => ?_⟩
  · simp [hc.mpr hchanged, hheld.mpr hin]
  · have hoff : (c && imageHeld (takeInput s)) = false := by
      rwa [Bool.and_eq_false_iff, ← Bool.not_eq_true, ← Bool.not_eq_true, hc, hheld, or_comm]
    simp [hoff]
  · have hidle : checksumUnderWay (takeInput s) = false := checksumUnderWay_eq_false huph
    simp [hidle]

/-- Settles O33: `step_imagePort` for every other step; the two inputs of the image port write their byte or length over
`markImageChange`. -/
theorem parametersAndImageAreReadOnly : Obligations.ParametersAndImageAreReadOnly := by
  refine ⟨fun s t h => ⟨step_params h, fun hbyte hlen => ?other⟩,
    fun s => ⟨fun a b rest hin hwf => ?byte, fun n rest hin => ?len⟩⟩
  case other =>
    obtain ⟨himgLen, himage⟩ := Prod.mk.inj (step_imagePort h hbyte hlen)
    exact ⟨himgLen, fun a => congrArg (Memory.read · a) himage⟩
  case byte =>
    have hchanged : (decide (a < s.ports.imgLen) && b != Memory.read s.ports.image a.toNat) = true
        ↔ a < s.ports.imgLen ∧ b ≠ Memory.read s.ports.image a.toNat := by
      rw [Bool.and_eq_true, decide_eq_true_iff, bne_iff_ne]
    exact ⟨_, step_of_imageByte hin, fun x => read_write hwf a.toNat x b, rfl, marked_markImageChange hchanged s _⟩
  case len => exact ⟨_, step_of_imageLen hin, rfl, marked_markImageChange bne_iff_ne s _⟩

end Sys2Proof.Machine
end
